-- ==== Sys2Proof/Word.lean ====
section
/-! DEFINITION. Word.lean: the widths the spec names and the three channels (00_scope.md R3, R7). -/

namespace Sys2Proof

/-- A 32-bit register, operand or address (30_encoding.md R101, 20_memory.md R70). -/
abbrev Word := BitVec 32

/-- A 16-bit counter: `cnt`, `len`, `tcnt`, `CAP[i]` (92_eei_decisions.md D36). -/
abbrev Half := BitVec 16

/-- A byte of a receive buffer. -/
abbrev Byte := BitVec 8

/-- The receive channels: `NCH` is exactly 3 (00_scope.md R7). -/
inductive Chan where
  | c0 | c1 | c2
deriving DecidableEq, Repr, Inhabited

/-- One value for each channel: every channel has its own copy (10_state.md section 3, R46). -/
structure PerChan (α : Type) where
  c0 : α
  c1 : α
  c2 : α
deriving DecidableEq, Repr, Inhabited

/-- The value of channel `c`. -/
def PerChan.get {α : Type} (p : PerChan α) (c : Chan) : α :=
  match c with
  | .c0 => p.c0
  | .c1 => p.c1
  | .c2 => p.c2

/-- `p` with channel `c`'s value replaced. -/
def PerChan.set {α : Type} (p : PerChan α) (c : Chan) (x : α) : PerChan α :=
  match c with
  | .c0 => { p with c0 := x }
  | .c1 => { p with c1 := x }
  | .c2 => { p with c2 := x }

end Sys2Proof
end

