-- ==== Sys2Proof/Syntax.lean ====
section
/-! DEFINITION. Syntax.lean: the operations of the block, one constructor per row of spec/opcode_table.json,
and the three ways one is written: operation word, bus access, scheduled request (30_encoding.md). -/

namespace Sys2Proof

/-- An operation word with its operands (30_encoding.md R100, R101, R113). Words that take fewer than two
operands ignore the rest. `operand1` is DATA for classes 0 and 2 and ADDR for classes 4 and 5; `operand2`
is DATA for class 5. -/
structure OpWord where
  word     : BitVec 16
  operand1 : Word := 0#32
  operand2 : Word := 0#32
deriving DecidableEq, Repr, Inhabited

/-- The direction of a bus access. -/
inductive Dir where
  | read | write
deriving DecidableEq, Repr, Inhabited

/-- A host bus access `(dir, addr, width, data)` (30_encoding.md R100); `width` is in bytes and may be
illegal, `data` is read for a write only. -/
structure BusAccess where
  dir   : Dir
  addr  : Word
  width : Nat
  data  : Word := 0#32
deriving DecidableEq, Repr, Inhabited

/-- One entry of the schedule: an operation at either of the two levels of 30_encoding.md R100. -/
inductive Request where
  | word (o : OpWord)
  | bus (a : BusAccess)
deriving DecidableEq, Repr, Inhabited

/-- The agents of 10_state.md R22. -/
inductive Agent where
  | host
  | timeBase
  | line (c : Chan)
  | dma (c : Chan)
  | frameTimer (c : Chan)
  | detector (c : Chan)
deriving DecidableEq, Repr, Inhabited

/-- The operations, one constructor per row of spec/opcode_table.json. The constructors of refused words
keep the word's remaining bits (log 16); loads and stores keep CH, which an assembler writes and no meaning
reads (30_encoding.md R103; log 15). -/
inductive Instr where
  -- refused words (30_encoding.md R107)
  /-- `refuse.class6` R107: class 6 spells no operation. -/
  | refuseClass6 (ch : BitVec 2) (sz : BitVec 2) (arg : Byte)
  /-- `refuse.class7` R107: class 7 spells no operation. -/
  | refuseClass7 (ch : BitVec 2) (sz : BitVec 2) (arg : Byte)
  /-- `refuse.ch3.class0` R107: CH = 3 in class 0. -/
  | refuseCh3Class0 (sz : BitVec 2) (arg : Byte)
  /-- `refuse.ch3.class1` R107: CH = 3 in class 1. -/
  | refuseCh3Class1 (sz : BitVec 2) (arg : Byte)
  /-- `refuse.ch3.class8` R107: CH = 3 in class 8. -/
  | refuseCh3Class8 (sz : BitVec 2) (arg : Byte)
  /-- `refuse.ch3.class9` R107: CH = 3 in class 9. -/
  | refuseCh3Class9 (sz : BitVec 2) (arg : Byte)
  /-- `refuse.ch3.classA` R107: CH = 3 in class A. -/
  | refuseCh3ClassA (sz : BitVec 2) (arg : Byte)
  /-- `refuse.ch3.classB` R107: CH = 3 in class B. -/
  | refuseCh3ClassB (sz : BitVec 2) (arg : Byte)
  /-- `refuse.ch3.classC` R107: CH = 3 in class C. -/
  | refuseCh3ClassC (sz : BitVec 2) (arg : Byte)
  /-- `refuse.ch3.classD` R107: CH = 3 in class D. -/
  | refuseCh3ClassD (sz : BitVec 2) (arg : Byte)
  /-- `refuse.ch3.classF` R107: CH = 3 in class F. -/
  | refuseCh3ClassF (sz : BitVec 2) (arg : Byte)
  /-- `refuse.sz3.class0` R107: SZ = 11 in class 0. -/
  | refuseSz3Class0 (c : Chan) (arg : Byte)
  /-- `refuse.sz3.class1` R107: SZ = 11 in class 1. -/
  | refuseSz3Class1 (c : Chan) (arg : Byte)
  /-- `refuse.sz3.class2` R107: SZ = 11 in class 2. -/
  | refuseSz3Class2 (ch : BitVec 2) (arg : Byte)
  /-- `refuse.sz3.class3` R107: SZ = 11 in class 3. -/
  | refuseSz3Class3 (ch : BitVec 2) (arg : Byte)
  /-- `refuse.sz3.class4` R107: SZ = 11 in class 4. -/
  | refuseSz3Class4 (ch : BitVec 2) (arg : Byte)
  /-- `refuse.sz3.class5` R107: SZ = 11 in class 5. -/
  | refuseSz3Class5 (ch : BitVec 2) (arg : Byte)
  -- register accesses that are not 32 bits wide (44_host_interface.md R226)
  /-- `wr.ch.sz0` R226: a 1-byte write of a channel register. -/
  | wrChSz0 (c : Chan) (reg : BitVec 4) (data : Word)
  /-- `wr.ch.sz1` R226: a 2-byte write of a channel register. -/
  | wrChSz1 (c : Chan) (reg : BitVec 4) (data : Word)
  /-- `rd.ch.sz0` R226: a 1-byte read of a channel register. -/
  | rdChSz0 (c : Chan) (reg : BitVec 4)
  /-- `rd.ch.sz1` R226: a 2-byte read of a channel register. -/
  | rdChSz1 (c : Chan) (reg : BitVec 4)
  /-- `wr.tb.sz0` R226: a 1-byte write of a time-base register. -/
  | wrTbSz0 (reg : BitVec 4) (data : Word)
  /-- `wr.tb.sz1` R226: a 2-byte write of a time-base register. -/
  | wrTbSz1 (reg : BitVec 4) (data : Word)
  /-- `rd.tb.sz0` R226: a 1-byte read of a time-base register. -/
  | rdTbSz0 (reg : BitVec 4)
  /-- `rd.tb.sz1` R226: a 2-byte read of a time-base register. -/
  | rdTbSz1 (reg : BitVec 4)
  -- commands (44_host_interface.md section 1)
  /-- `cmd.init` R210: INIT, CMD written with 1. -/
  | cmdInit (c : Chan)
  /-- `cmd.reset` R211: RESET, CMD written with 2. -/
  | cmdReset (c : Chan)
  /-- `cmd.prst` R212: PRST, CMD written with 3. -/
  | cmdPrst (c : Chan)
  /-- `cmd.bad` R213: CMD written with any other value. -/
  | cmdBad (c : Chan) (data : Word)
  -- channel register writes (section 2)
  /-- `wr.ch.BAUD` R214: write BAUD. -/
  | wrChBaud (c : Chan) (data : Word)
  /-- `wr.ch.STAT` R215: write the read-only STAT. -/
  | wrChStat (c : Chan) (data : Word)
  /-- `wr.ch.LEN` R215: write the read-only LEN. -/
  | wrChLen (c : Chan) (data : Word)
  /-- `wr.ch.CNT` R215: write the read-only CNT. -/
  | wrChCnt (c : Chan) (data : Word)
  /-- `wr.ch.TCNT` R215: write the read-only TCNT. -/
  | wrChTcnt (c : Chan) (data : Word)
  /-- `wr.ch.CAP` R215: write the read-only CAP. -/
  | wrChCap (c : Chan) (data : Word)
  /-- `wr.ch.BUF` R215: write the read-only BUF. -/
  | wrChBuf (c : Chan) (data : Word)
  /-- `wr.ch.TPER` R215: write the read-only TPER. -/
  | wrChTper (c : Chan) (data : Word)
  /-- `wr.ch.reserved9-9` R216: write reserved register 9. -/
  | wrChReserved9 (c : Chan) (data : Word)
  /-- `wr.ch.reserved10-11` R216: write reserved register 10 or 11. -/
  | wrChReserved10to11 (c : Chan) (reg : BitVec 4) (data : Word)
  /-- `wr.ch.reserved12-15` R216: write reserved register 12 to 15. -/
  | wrChReserved12to15 (c : Chan) (reg : BitVec 4) (data : Word)
  -- channel register reads (section 3)
  /-- `rd.ch.CMD` R217: read the write-only CMD. -/
  | rdChCmd (c : Chan)
  /-- `rd.ch.STAT` R218: read STAT. -/
  | rdChStat (c : Chan)
  /-- `rd.ch.LEN` R219: read LEN. -/
  | rdChLen (c : Chan)
  /-- `rd.ch.CNT` R220: read CNT. -/
  | rdChCnt (c : Chan)
  /-- `rd.ch.BAUD` R221: read BAUD. -/
  | rdChBaud (c : Chan)
  /-- `rd.ch.TCNT` R222: read TCNT. -/
  | rdChTcnt (c : Chan)
  /-- `rd.ch.CAP` R223: read CAP. -/
  | rdChCap (c : Chan)
  /-- `rd.ch.BUF` R224: read BUF. -/
  | rdChBuf (c : Chan)
  /-- `rd.ch.TPER` R225: read TPER. -/
  | rdChTper (c : Chan)
  /-- `rd.ch.reserved9-9` R216: read reserved register 9. -/
  | rdChReserved9 (c : Chan)
  /-- `rd.ch.reserved10-11` R216: read reserved register 10 or 11. -/
  | rdChReserved10to11 (c : Chan) (reg : BitVec 4)
  /-- `rd.ch.reserved12-15` R216: read reserved register 12 to 15. -/
  | rdChReserved12to15 (c : Chan) (reg : BitVec 4)
  -- time-base register writes (40_time_base.md section 2)
  /-- `wr.tb.TB_CTRL` R142: write TB_CTRL. -/
  | wrTbCtrl (data : Word)
  /-- `wr.tb.TB_LOAD` R143: write TB_LOAD. -/
  | wrTbLoad (data : Word)
  /-- `wr.tb.TB_VAL` R144: write the read-only TB_VAL. -/
  | wrTbVal (data : Word)
  /-- `wr.tb.TB_CAL` R145: write TB_CAL. -/
  | wrTbCal (data : Word)
  /-- `wr.tb.TB_QUANT` R146: write TB_QUANT. -/
  | wrTbQuant (data : Word)
  /-- `wr.tb.reserved5-5` R152: write reserved register 5. -/
  | wrTbReserved5 (data : Word)
  /-- `wr.tb.reserved6-7` R152: write reserved register 6 or 7. -/
  | wrTbReserved6to7 (reg : BitVec 4) (data : Word)
  /-- `wr.tb.reserved8-15` R152: write reserved register 8 to 15. -/
  | wrTbReserved8to15 (reg : BitVec 4) (data : Word)
  -- time-base register reads
  /-- `rd.tb.TB_CTRL` R147: read TB_CTRL. -/
  | rdTbCtrl
  /-- `rd.tb.TB_LOAD` R148: read TB_LOAD. -/
  | rdTbLoad
  /-- `rd.tb.TB_VAL` R149: read TB_VAL. -/
  | rdTbVal
  /-- `rd.tb.TB_CAL` R150: read TB_CAL. -/
  | rdTbCal
  /-- `rd.tb.TB_QUANT` R151: read TB_QUANT. -/
  | rdTbQuant
  /-- `rd.tb.reserved5-5` R152: read reserved register 5. -/
  | rdTbReserved5
  /-- `rd.tb.reserved6-7` R152: read reserved register 6 or 7. -/
  | rdTbReserved6to7 (reg : BitVec 4)
  /-- `rd.tb.reserved8-15` R152: read reserved register 8 to 15. -/
  | rdTbReserved8to15 (reg : BitVec 4)
  -- buffer memory (44_host_interface.md section 4)
  /-- `ld.b` R227: read 1 byte(s) of a buffer. -/
  | ldB (ch : BitVec 2) (addr : Word)
  /-- `ld.h` R227: read 2 byte(s) of a buffer. -/
  | ldH (ch : BitVec 2) (addr : Word)
  /-- `ld.w` R227: read 4 byte(s) of a buffer. -/
  | ldW (ch : BitVec 2) (addr : Word)
  /-- `st.b` R228: write 1 byte(s) of a buffer. -/
  | stB (ch : BitVec 2) (addr : Word) (data : Word)
  /-- `st.h` R228: write 2 byte(s) of a buffer. -/
  | stH (ch : BitVec 2) (addr : Word) (data : Word)
  /-- `st.w` R228: write 4 byte(s) of a buffer. -/
  | stW (ch : BitVec 2) (addr : Word) (data : Word)
  -- events (files 40 to 43)
  /-- `ev.byte` R161: LBYTE, a byte arrives on the line. -/
  | evByte (c : Chan) (b : Byte)
  /-- `ev.idle` R162: LIDLE, the line goes idle. -/
  | evIdle (c : Chan)
  /-- `ev.dxfer` R163: DXFER, the DMA moves the held byte into the ring. -/
  | evDxfer (c : Chan)
  /-- `ev.ftick` R181: FTICK, one tick of the frame timer. -/
  | evFtick (c : Chan)
  /-- `ev.didle` R191: DIDLE, the idle-line action. -/
  | evDidle (c : Chan)
  /-- `ev.dexp` R192: DEXP, the frame-timer-expiry action. -/
  | evDexp (c : Chan)
  /-- `ev.derr` R164: DERR, a DMA bus error. -/
  | evDerr (c : Chan)
  /-- `ev.ttick` R141: TTICK, one tick of the time base. -/
  | evTtick
deriving DecidableEq, Repr, Inhabited

end Sys2Proof
end

