-- ==== Sys2Proof/WellFormed.lean ====
section
/-! DEFINITION. WellFormed.lean: the operand values a row of spec/opcode_table.json admits. -/

namespace Sys2Proof

/-- Is the instruction one that some operation word spells? The rows that stand for a range of reserved
registers, and the bad-command row, limit an operand (30_encoding.md R106, R107). -/
def Instr.wellFormed (i : Instr) : Bool :=
  match i with
  | .refuseClass6 _ _ _ => true
  | .refuseClass7 _ _ _ => true
  | .refuseCh3Class0 _ _ => true
  | .refuseCh3Class1 _ _ => true
  | .refuseCh3Class8 _ _ => true
  | .refuseCh3Class9 _ _ => true
  | .refuseCh3ClassA _ _ => true
  | .refuseCh3ClassB _ _ => true
  | .refuseCh3ClassC _ _ => true
  | .refuseCh3ClassD _ _ => true
  | .refuseCh3ClassF _ _ => true
  | .refuseSz3Class0 _ _ => true
  | .refuseSz3Class1 _ _ => true
  | .refuseSz3Class2 _ _ => true
  | .refuseSz3Class3 _ _ => true
  | .refuseSz3Class4 _ _ => true
  | .refuseSz3Class5 _ _ => true
  | .wrChSz0 _ _ _ => true
  | .wrChSz1 _ _ _ => true
  | .rdChSz0 _ _ => true
  | .rdChSz1 _ _ => true
  | .wrTbSz0 _ _ => true
  | .wrTbSz1 _ _ => true
  | .rdTbSz0 _ => true
  | .rdTbSz1 _ => true
  | .cmdInit _ => true
  | .cmdReset _ => true
  | .cmdPrst _ => true
  | .cmdBad _ data => decide (data ≠ 1#32) && decide (data ≠ 2#32) && decide (data ≠ 3#32)
  | .wrChBaud _ _ => true
  | .wrChStat _ _ => true
  | .wrChLen _ _ => true
  | .wrChCnt _ _ => true
  | .wrChTcnt _ _ => true
  | .wrChCap _ _ => true
  | .wrChBuf _ _ => true
  | .wrChTper _ _ => true
  | .wrChReserved9 _ _ => true
  | .wrChReserved10to11 _ reg _ => decide (10#4 ≤ reg) && decide (reg ≤ 11#4)
  | .wrChReserved12to15 _ reg _ => decide (12#4 ≤ reg)
  | .rdChCmd _ => true
  | .rdChStat _ => true
  | .rdChLen _ => true
  | .rdChCnt _ => true
  | .rdChBaud _ => true
  | .rdChTcnt _ => true
  | .rdChCap _ => true
  | .rdChBuf _ => true
  | .rdChTper _ => true
  | .rdChReserved9 _ => true
  | .rdChReserved10to11 _ reg => decide (10#4 ≤ reg) && decide (reg ≤ 11#4)
  | .rdChReserved12to15 _ reg => decide (12#4 ≤ reg)
  | .wrTbCtrl _ => true
  | .wrTbLoad _ => true
  | .wrTbVal _ => true
  | .wrTbCal _ => true
  | .wrTbQuant _ => true
  | .wrTbReserved5 _ => true
  | .wrTbReserved6to7 reg _ => decide (6#4 ≤ reg) && decide (reg ≤ 7#4)
  | .wrTbReserved8to15 reg _ => decide (8#4 ≤ reg)
  | .rdTbCtrl => true
  | .rdTbLoad => true
  | .rdTbVal => true
  | .rdTbCal => true
  | .rdTbQuant => true
  | .rdTbReserved5 => true
  | .rdTbReserved6to7 reg => decide (6#4 ≤ reg) && decide (reg ≤ 7#4)
  | .rdTbReserved8to15 reg => decide (8#4 ≤ reg)
  | .ldB _ _ => true
  | .ldH _ _ => true
  | .ldW _ _ => true
  | .stB _ _ _ => true
  | .stH _ _ _ => true
  | .stW _ _ _ => true
  | .evByte _ _ => true
  | .evIdle _ => true
  | .evDxfer _ => true
  | .evFtick _ => true
  | .evDidle _ => true
  | .evDexp _ => true
  | .evDerr _ => true
  | .evTtick => true

end Sys2Proof
end

