-- ==== Sys2Proof/Decode.lean ====
section
/-! DEFINITION. Decode.lean: from operation words to operations and back (30_encoding.md R101-R113).
Every word is decided: a word that spells no operation is decoded to the refused row that names why. -/

namespace Sys2Proof

/-! ### Fields of an operation word (R101, R103) -/

/-- `CLS = OW[15:12]`. -/
def clsOf (w : BitVec 16) : BitVec 4 := w.extractLsb' 12 4

/-- `CH = OW[11:10]`. -/
def chOf (w : BitVec 16) : BitVec 2 := w.extractLsb' 10 2

/-- `SZ = OW[9:8]`. -/
def szOf (w : BitVec 16) : BitVec 2 := w.extractLsb' 8 2

/-- `ARG = OW[7:0]`. -/
def argOf (w : BitVec 16) : Byte := w.extractLsb' 0 8

/-- The register index `OW[3:0]`, the low half of ARG; ARG[7:4] is ignored (R109 (c)). -/
def regOf (arg : Byte) : BitVec 4 := arg.extractLsb' 0 4

/-- The operation word `{CLS, CH, SZ, ARG}`. -/
def packWord (cls : BitVec 4) (ch sz : BitVec 2) (arg : Byte) : BitVec 16 := cls ++ ch ++ sz ++ arg

/-- ARG of a register access, its ignored bits written as 0 (R109 (c)). -/
def regArg (reg : BitVec 4) : Byte := 0#4 ++ reg

/-- The sixteen operation classes (R102). -/
inductive Cls where
  | cwr | crd | twr | trd | mrd | mwr | reserved6 | reserved7
  | lbyte | lidle | dxfer | ftick | didle | dexp | ttick | derr
deriving DecidableEq, Repr, Inhabited

/-- The class a CLS field names (R102); 0xF is the last. -/
def Cls.ofBits (b : BitVec 4) : Cls :=
  match b with
  | 0x0#4 => .cwr
  | 0x1#4 => .crd
  | 0x2#4 => .twr
  | 0x3#4 => .trd
  | 0x4#4 => .mrd
  | 0x5#4 => .mwr
  | 0x6#4 => .reserved6
  | 0x7#4 => .reserved7
  | 0x8#4 => .lbyte
  | 0x9#4 => .lidle
  | 0xA#4 => .dxfer
  | 0xB#4 => .ftick
  | 0xC#4 => .didle
  | 0xD#4 => .dexp
  | 0xE#4 => .ttick
  | _ => .derr

/-- The channel a CH field names; 3 names none (R101). -/
def Chan.ofBits (b : BitVec 2) : Option Chan :=
  match b with
  | 0#2 => some .c0
  | 1#2 => some .c1
  | 2#2 => some .c2
  | _ => none

/-- The CH field of a channel. -/
def Chan.toBits (c : Chan) : BitVec 2 :=
  match c with
  | .c0 => 0#2
  | .c1 => 1#2
  | .c2 => 2#2

/-- The access sizes of classes 0 to 5 (R101). -/
inductive Size where
  | byte | half | word
deriving DecidableEq, Repr, Inhabited

/-- The size an SZ field names; 11 names none (R101). -/
def Size.ofBits (b : BitVec 2) : Option Size :=
  match b with
  | 0#2 => some .byte
  | 1#2 => some .half
  | 2#2 => some .word
  | _ => none

/-- `size = 2^SZ` bytes (R103). -/
def Size.bytes (z : Size) : Nat :=
  match z with
  | .byte => 1
  | .half => 2
  | .word => 4

/-- The SZ field of a size (R101). -/
def Size.toBits (z : Size) : BitVec 2 :=
  match z with
  | .byte => 0#2
  | .half => 1#2
  | .word => 2#2

/-! ### Decoding (R106, R107, R111) -/

/-- A 32-bit write of a channel register (R104, R106, R108). -/
def decodeWrCh (c : Chan) (reg : BitVec 4) (data : Word) : Instr :=
  match reg with
  | 0#4 =>
    if data = 1#32 then .cmdInit c
    else if data = 2#32 then .cmdReset c
    else if data = 3#32 then .cmdPrst c
    else .cmdBad c data
  | 1#4 => .wrChStat c data
  | 2#4 => .wrChLen c data
  | 3#4 => .wrChCnt c data
  | 4#4 => .wrChBaud c data
  | 5#4 => .wrChTcnt c data
  | 6#4 => .wrChCap c data
  | 7#4 => .wrChBuf c data
  | 8#4 => .wrChTper c data
  | 9#4 => .wrChReserved9 c data
  | 10#4 => .wrChReserved10to11 c 10#4 data
  | 11#4 => .wrChReserved10to11 c 11#4 data
  | r => .wrChReserved12to15 c r data

/-- A 32-bit read of a channel register (R104, R106). -/
def decodeRdCh (c : Chan) (reg : BitVec 4) : Instr :=
  match reg with
  | 0#4 => .rdChCmd c
  | 1#4 => .rdChStat c
  | 2#4 => .rdChLen c
  | 3#4 => .rdChCnt c
  | 4#4 => .rdChBaud c
  | 5#4 => .rdChTcnt c
  | 6#4 => .rdChCap c
  | 7#4 => .rdChBuf c
  | 8#4 => .rdChTper c
  | 9#4 => .rdChReserved9 c
  | 10#4 => .rdChReserved10to11 c 10#4
  | 11#4 => .rdChReserved10to11 c 11#4
  | r => .rdChReserved12to15 c r

/-- A 32-bit write of a time-base register (R104, R106). -/
def decodeWrTb (reg : BitVec 4) (data : Word) : Instr :=
  match reg with
  | 0#4 => .wrTbCtrl data
  | 1#4 => .wrTbLoad data
  | 2#4 => .wrTbVal data
  | 3#4 => .wrTbCal data
  | 4#4 => .wrTbQuant data
  | 5#4 => .wrTbReserved5 data
  | 6#4 => .wrTbReserved6to7 6#4 data
  | 7#4 => .wrTbReserved6to7 7#4 data
  | r => .wrTbReserved8to15 r data

/-- A 32-bit read of a time-base register (R104, R106). -/
def decodeRdTb (reg : BitVec 4) : Instr :=
  match reg with
  | 0#4 => .rdTbCtrl
  | 1#4 => .rdTbLoad
  | 2#4 => .rdTbVal
  | 3#4 => .rdTbCal
  | 4#4 => .rdTbQuant
  | 5#4 => .rdTbReserved5
  | 6#4 => .rdTbReserved6to7 6#4
  | 7#4 => .rdTbReserved6to7 7#4
  | r => .rdTbReserved8to15 r

/-- Class 0, CWR: CH, then SZ, then the register (R107, R111). -/
def decodeCwr (ch sz : BitVec 2) (arg : Byte) (data : Word) : Instr :=
  match Chan.ofBits ch with
  | none => .refuseCh3Class0 sz arg
  | some c =>
    match Size.ofBits sz with
    | none => .refuseSz3Class0 c arg
    | some .byte => .wrChSz0 c (regOf arg) data
    | some .half => .wrChSz1 c (regOf arg) data
    | some .word => decodeWrCh c (regOf arg) data

/-- Class 1, CRD. -/
def decodeCrd (ch sz : BitVec 2) (arg : Byte) : Instr :=
  match Chan.ofBits ch with
  | none => .refuseCh3Class1 sz arg
  | some c =>
    match Size.ofBits sz with
    | none => .refuseSz3Class1 c arg
    | some .byte => .rdChSz0 c (regOf arg)
    | some .half => .rdChSz1 c (regOf arg)
    | some .word => decodeRdCh c (regOf arg)

/-- Class 2, TWR: CH is ignored (R109 (c)). -/
def decodeTwr (ch sz : BitVec 2) (arg : Byte) (data : Word) : Instr :=
  match Size.ofBits sz with
  | none => .refuseSz3Class2 ch arg
  | some .byte => .wrTbSz0 (regOf arg) data
  | some .half => .wrTbSz1 (regOf arg) data
  | some .word => decodeWrTb (regOf arg) data

/-- Class 3, TRD: CH is ignored. -/
def decodeTrd (ch sz : BitVec 2) (arg : Byte) : Instr :=
  match Size.ofBits sz with
  | none => .refuseSz3Class3 ch arg
  | some .byte => .rdTbSz0 (regOf arg)
  | some .half => .rdTbSz1 (regOf arg)
  | some .word => decodeRdTb (regOf arg)

/-- Class 4, MRD. -/
def decodeMrd (ch sz : BitVec 2) (arg : Byte) (addr : Word) : Instr :=
  match Size.ofBits sz with
  | none => .refuseSz3Class4 ch arg
  | some .byte => .ldB ch addr
  | some .half => .ldH ch addr
  | some .word => .ldW ch addr

/-- Class 5, MWR. -/
def decodeMwr (ch sz : BitVec 2) (arg : Byte) (addr data : Word) : Instr :=
  match Size.ofBits sz with
  | none => .refuseSz3Class5 ch arg
  | some .byte => .stB ch addr data
  | some .half => .stH ch addr data
  | some .word => .stW ch addr data

/-- An event class of one channel: CH = 3 is refused, SZ is ignored (R107, R109 (c)). -/
def decodeEvent (ch : BitVec 2) (refused : Instr) (event : Chan → Instr) : Instr :=
  match Chan.ofBits ch with
  | none => refused
  | some c => event c

/-- The operation the fields of a word and its operands spell (R107, R111). -/
def decodeFields (cls : Cls) (ch sz : BitVec 2) (arg : Byte) (operand1 operand2 : Word) : Instr :=
  match cls with
  | .reserved6 => .refuseClass6 ch sz arg
  | .reserved7 => .refuseClass7 ch sz arg
  | .cwr => decodeCwr ch sz arg operand1
  | .crd => decodeCrd ch sz arg
  | .twr => decodeTwr ch sz arg operand1
  | .trd => decodeTrd ch sz arg
  | .mrd => decodeMrd ch sz arg operand1
  | .mwr => decodeMwr ch sz arg operand1 operand2
  | .lbyte => decodeEvent ch (.refuseCh3Class8 sz arg) (fun c => .evByte c arg)
  | .lidle => decodeEvent ch (.refuseCh3Class9 sz arg) .evIdle
  | .dxfer => decodeEvent ch (.refuseCh3ClassA sz arg) .evDxfer
  | .ftick => decodeEvent ch (.refuseCh3ClassB sz arg) .evFtick
  | .didle => decodeEvent ch (.refuseCh3ClassC sz arg) .evDidle
  | .dexp => decodeEvent ch (.refuseCh3ClassD sz arg) .evDexp
  | .ttick => .evTtick
  | .derr => decodeEvent ch (.refuseCh3ClassF sz arg) .evDerr

/-- The operation an operation word and its operands spell; total (R107). -/
def decode (o : OpWord) : Instr :=
  decodeFields (Cls.ofBits (clsOf o.word)) (chOf o.word) (szOf o.word) (argOf o.word) o.operand1 o.operand2

/-! ### Encoding (R101, R114) -/

/-- The operation word and operands of an instruction. Ignored bits are 0 (R109 (c)), unused operands are 0. -/
def encode (i : Instr) : OpWord :=
  match i with
  | .refuseClass6 ch sz arg => ⟨packWord 0x6#4 ch sz arg, 0#32, 0#32⟩
  | .refuseClass7 ch sz arg => ⟨packWord 0x7#4 ch sz arg, 0#32, 0#32⟩
  | .refuseCh3Class0 sz arg => ⟨packWord 0x0#4 3#2 sz arg, 0#32, 0#32⟩
  | .refuseCh3Class1 sz arg => ⟨packWord 0x1#4 3#2 sz arg, 0#32, 0#32⟩
  | .refuseCh3Class8 sz arg => ⟨packWord 0x8#4 3#2 sz arg, 0#32, 0#32⟩
  | .refuseCh3Class9 sz arg => ⟨packWord 0x9#4 3#2 sz arg, 0#32, 0#32⟩
  | .refuseCh3ClassA sz arg => ⟨packWord 0xA#4 3#2 sz arg, 0#32, 0#32⟩
  | .refuseCh3ClassB sz arg => ⟨packWord 0xB#4 3#2 sz arg, 0#32, 0#32⟩
  | .refuseCh3ClassC sz arg => ⟨packWord 0xC#4 3#2 sz arg, 0#32, 0#32⟩
  | .refuseCh3ClassD sz arg => ⟨packWord 0xD#4 3#2 sz arg, 0#32, 0#32⟩
  | .refuseCh3ClassF sz arg => ⟨packWord 0xF#4 3#2 sz arg, 0#32, 0#32⟩
  | .refuseSz3Class0 c arg => ⟨packWord 0x0#4 c.toBits 3#2 arg, 0#32, 0#32⟩
  | .refuseSz3Class1 c arg => ⟨packWord 0x1#4 c.toBits 3#2 arg, 0#32, 0#32⟩
  | .refuseSz3Class2 ch arg => ⟨packWord 0x2#4 ch 3#2 arg, 0#32, 0#32⟩
  | .refuseSz3Class3 ch arg => ⟨packWord 0x3#4 ch 3#2 arg, 0#32, 0#32⟩
  | .refuseSz3Class4 ch arg => ⟨packWord 0x4#4 ch 3#2 arg, 0#32, 0#32⟩
  | .refuseSz3Class5 ch arg => ⟨packWord 0x5#4 ch 3#2 arg, 0#32, 0#32⟩
  | .wrChSz0 c reg data => ⟨packWord 0x0#4 c.toBits 0#2 (regArg reg), data, 0#32⟩
  | .wrChSz1 c reg data => ⟨packWord 0x0#4 c.toBits 1#2 (regArg reg), data, 0#32⟩
  | .rdChSz0 c reg => ⟨packWord 0x1#4 c.toBits 0#2 (regArg reg), 0#32, 0#32⟩
  | .rdChSz1 c reg => ⟨packWord 0x1#4 c.toBits 1#2 (regArg reg), 0#32, 0#32⟩
  | .wrTbSz0 reg data => ⟨packWord 0x2#4 0#2 0#2 (regArg reg), data, 0#32⟩
  | .wrTbSz1 reg data => ⟨packWord 0x2#4 0#2 1#2 (regArg reg), data, 0#32⟩
  | .rdTbSz0 reg => ⟨packWord 0x3#4 0#2 0#2 (regArg reg), 0#32, 0#32⟩
  | .rdTbSz1 reg => ⟨packWord 0x3#4 0#2 1#2 (regArg reg), 0#32, 0#32⟩
  | .cmdInit c => ⟨packWord 0x0#4 c.toBits 2#2 (regArg 0#4), 1#32, 0#32⟩
  | .cmdReset c => ⟨packWord 0x0#4 c.toBits 2#2 (regArg 0#4), 2#32, 0#32⟩
  | .cmdPrst c => ⟨packWord 0x0#4 c.toBits 2#2 (regArg 0#4), 3#32, 0#32⟩
  | .cmdBad c data => ⟨packWord 0x0#4 c.toBits 2#2 (regArg 0#4), data, 0#32⟩
  | .wrChBaud c data => ⟨packWord 0x0#4 c.toBits 2#2 (regArg 4#4), data, 0#32⟩
  | .wrChStat c data => ⟨packWord 0x0#4 c.toBits 2#2 (regArg 1#4), data, 0#32⟩
  | .wrChLen c data => ⟨packWord 0x0#4 c.toBits 2#2 (regArg 2#4), data, 0#32⟩
  | .wrChCnt c data => ⟨packWord 0x0#4 c.toBits 2#2 (regArg 3#4), data, 0#32⟩
  | .wrChTcnt c data => ⟨packWord 0x0#4 c.toBits 2#2 (regArg 5#4), data, 0#32⟩
  | .wrChCap c data => ⟨packWord 0x0#4 c.toBits 2#2 (regArg 6#4), data, 0#32⟩
  | .wrChBuf c data => ⟨packWord 0x0#4 c.toBits 2#2 (regArg 7#4), data, 0#32⟩
  | .wrChTper c data => ⟨packWord 0x0#4 c.toBits 2#2 (regArg 8#4), data, 0#32⟩
  | .wrChReserved9 c data => ⟨packWord 0x0#4 c.toBits 2#2 (regArg 9#4), data, 0#32⟩
  | .wrChReserved10to11 c reg data => ⟨packWord 0x0#4 c.toBits 2#2 (regArg reg), data, 0#32⟩
  | .wrChReserved12to15 c reg data => ⟨packWord 0x0#4 c.toBits 2#2 (regArg reg), data, 0#32⟩
  | .rdChCmd c => ⟨packWord 0x1#4 c.toBits 2#2 (regArg 0#4), 0#32, 0#32⟩
  | .rdChStat c => ⟨packWord 0x1#4 c.toBits 2#2 (regArg 1#4), 0#32, 0#32⟩
  | .rdChLen c => ⟨packWord 0x1#4 c.toBits 2#2 (regArg 2#4), 0#32, 0#32⟩
  | .rdChCnt c => ⟨packWord 0x1#4 c.toBits 2#2 (regArg 3#4), 0#32, 0#32⟩
  | .rdChBaud c => ⟨packWord 0x1#4 c.toBits 2#2 (regArg 4#4), 0#32, 0#32⟩
  | .rdChTcnt c => ⟨packWord 0x1#4 c.toBits 2#2 (regArg 5#4), 0#32, 0#32⟩
  | .rdChCap c => ⟨packWord 0x1#4 c.toBits 2#2 (regArg 6#4), 0#32, 0#32⟩
  | .rdChBuf c => ⟨packWord 0x1#4 c.toBits 2#2 (regArg 7#4), 0#32, 0#32⟩
  | .rdChTper c => ⟨packWord 0x1#4 c.toBits 2#2 (regArg 8#4), 0#32, 0#32⟩
  | .rdChReserved9 c => ⟨packWord 0x1#4 c.toBits 2#2 (regArg 9#4), 0#32, 0#32⟩
  | .rdChReserved10to11 c reg => ⟨packWord 0x1#4 c.toBits 2#2 (regArg reg), 0#32, 0#32⟩
  | .rdChReserved12to15 c reg => ⟨packWord 0x1#4 c.toBits 2#2 (regArg reg), 0#32, 0#32⟩
  | .wrTbCtrl data => ⟨packWord 0x2#4 0#2 2#2 (regArg 0#4), data, 0#32⟩
  | .wrTbLoad data => ⟨packWord 0x2#4 0#2 2#2 (regArg 1#4), data, 0#32⟩
  | .wrTbVal data => ⟨packWord 0x2#4 0#2 2#2 (regArg 2#4), data, 0#32⟩
  | .wrTbCal data => ⟨packWord 0x2#4 0#2 2#2 (regArg 3#4), data, 0#32⟩
  | .wrTbQuant data => ⟨packWord 0x2#4 0#2 2#2 (regArg 4#4), data, 0#32⟩
  | .wrTbReserved5 data => ⟨packWord 0x2#4 0#2 2#2 (regArg 5#4), data, 0#32⟩
  | .wrTbReserved6to7 reg data => ⟨packWord 0x2#4 0#2 2#2 (regArg reg), data, 0#32⟩
  | .wrTbReserved8to15 reg data => ⟨packWord 0x2#4 0#2 2#2 (regArg reg), data, 0#32⟩
  | .rdTbCtrl => ⟨packWord 0x3#4 0#2 2#2 (regArg 0#4), 0#32, 0#32⟩
  | .rdTbLoad => ⟨packWord 0x3#4 0#2 2#2 (regArg 1#4), 0#32, 0#32⟩
  | .rdTbVal => ⟨packWord 0x3#4 0#2 2#2 (regArg 2#4), 0#32, 0#32⟩
  | .rdTbCal => ⟨packWord 0x3#4 0#2 2#2 (regArg 3#4), 0#32, 0#32⟩
  | .rdTbQuant => ⟨packWord 0x3#4 0#2 2#2 (regArg 4#4), 0#32, 0#32⟩
  | .rdTbReserved5 => ⟨packWord 0x3#4 0#2 2#2 (regArg 5#4), 0#32, 0#32⟩
  | .rdTbReserved6to7 reg => ⟨packWord 0x3#4 0#2 2#2 (regArg reg), 0#32, 0#32⟩
  | .rdTbReserved8to15 reg => ⟨packWord 0x3#4 0#2 2#2 (regArg reg), 0#32, 0#32⟩
  | .ldB ch addr => ⟨packWord 0x4#4 ch 0#2 0#8, addr, 0#32⟩
  | .ldH ch addr => ⟨packWord 0x4#4 ch 1#2 0#8, addr, 0#32⟩
  | .ldW ch addr => ⟨packWord 0x4#4 ch 2#2 0#8, addr, 0#32⟩
  | .stB ch addr data => ⟨packWord 0x5#4 ch 0#2 0#8, addr, data⟩
  | .stH ch addr data => ⟨packWord 0x5#4 ch 1#2 0#8, addr, data⟩
  | .stW ch addr data => ⟨packWord 0x5#4 ch 2#2 0#8, addr, data⟩
  | .evByte c b => ⟨packWord 0x8#4 c.toBits 0#2 b, 0#32, 0#32⟩
  | .evIdle c => ⟨packWord 0x9#4 c.toBits 0#2 0#8, 0#32, 0#32⟩
  | .evDxfer c => ⟨packWord 0xA#4 c.toBits 0#2 0#8, 0#32, 0#32⟩
  | .evFtick c => ⟨packWord 0xB#4 c.toBits 0#2 0#8, 0#32, 0#32⟩
  | .evDidle c => ⟨packWord 0xC#4 c.toBits 0#2 0#8, 0#32, 0#32⟩
  | .evDexp c => ⟨packWord 0xD#4 c.toBits 0#2 0#8, 0#32, 0#32⟩
  | .evDerr c => ⟨packWord 0xF#4 c.toBits 0#2 0#8, 0#32, 0#32⟩
  | .evTtick => ⟨packWord 0xE#4 0#2 0#2 0#8, 0#32, 0#32⟩

/-- How many 32-bit operands a class takes (R113). -/
def Cls.operandCount (k : Cls) : Nat :=
  match k with
  | .cwr | .twr | .mrd => 1
  | .mwr => 2
  | .crd | .trd | .reserved6 | .reserved7 => 0
  | .lbyte | .lidle | .dxfer | .ftick | .didle | .dexp | .ttick | .derr => 0

/-! ### Views of an instruction -/

/-- The instruction's mnemonic in spec/opcode_table.json. -/
def Instr.mnemonic (i : Instr) : String :=
  match i with
  | .refuseClass6 _ _ _ => "refuse.class6"
  | .refuseClass7 _ _ _ => "refuse.class7"
  | .refuseCh3Class0 _ _ => "refuse.ch3.class0"
  | .refuseCh3Class1 _ _ => "refuse.ch3.class1"
  | .refuseCh3Class8 _ _ => "refuse.ch3.class8"
  | .refuseCh3Class9 _ _ => "refuse.ch3.class9"
  | .refuseCh3ClassA _ _ => "refuse.ch3.classA"
  | .refuseCh3ClassB _ _ => "refuse.ch3.classB"
  | .refuseCh3ClassC _ _ => "refuse.ch3.classC"
  | .refuseCh3ClassD _ _ => "refuse.ch3.classD"
  | .refuseCh3ClassF _ _ => "refuse.ch3.classF"
  | .refuseSz3Class0 _ _ => "refuse.sz3.class0"
  | .refuseSz3Class1 _ _ => "refuse.sz3.class1"
  | .refuseSz3Class2 _ _ => "refuse.sz3.class2"
  | .refuseSz3Class3 _ _ => "refuse.sz3.class3"
  | .refuseSz3Class4 _ _ => "refuse.sz3.class4"
  | .refuseSz3Class5 _ _ => "refuse.sz3.class5"
  | .wrChSz0 _ _ _ => "wr.ch.sz0"
  | .wrChSz1 _ _ _ => "wr.ch.sz1"
  | .rdChSz0 _ _ => "rd.ch.sz0"
  | .rdChSz1 _ _ => "rd.ch.sz1"
  | .wrTbSz0 _ _ => "wr.tb.sz0"
  | .wrTbSz1 _ _ => "wr.tb.sz1"
  | .rdTbSz0 _ => "rd.tb.sz0"
  | .rdTbSz1 _ => "rd.tb.sz1"
  | .cmdInit _ => "cmd.init"
  | .cmdReset _ => "cmd.reset"
  | .cmdPrst _ => "cmd.prst"
  | .cmdBad _ _ => "cmd.bad"
  | .wrChBaud _ _ => "wr.ch.BAUD"
  | .wrChStat _ _ => "wr.ch.STAT"
  | .wrChLen _ _ => "wr.ch.LEN"
  | .wrChCnt _ _ => "wr.ch.CNT"
  | .wrChTcnt _ _ => "wr.ch.TCNT"
  | .wrChCap _ _ => "wr.ch.CAP"
  | .wrChBuf _ _ => "wr.ch.BUF"
  | .wrChTper _ _ => "wr.ch.TPER"
  | .wrChReserved9 _ _ => "wr.ch.reserved9-9"
  | .wrChReserved10to11 _ _ _ => "wr.ch.reserved10-11"
  | .wrChReserved12to15 _ _ _ => "wr.ch.reserved12-15"
  | .rdChCmd _ => "rd.ch.CMD"
  | .rdChStat _ => "rd.ch.STAT"
  | .rdChLen _ => "rd.ch.LEN"
  | .rdChCnt _ => "rd.ch.CNT"
  | .rdChBaud _ => "rd.ch.BAUD"
  | .rdChTcnt _ => "rd.ch.TCNT"
  | .rdChCap _ => "rd.ch.CAP"
  | .rdChBuf _ => "rd.ch.BUF"
  | .rdChTper _ => "rd.ch.TPER"
  | .rdChReserved9 _ => "rd.ch.reserved9-9"
  | .rdChReserved10to11 _ _ => "rd.ch.reserved10-11"
  | .rdChReserved12to15 _ _ => "rd.ch.reserved12-15"
  | .wrTbCtrl _ => "wr.tb.TB_CTRL"
  | .wrTbLoad _ => "wr.tb.TB_LOAD"
  | .wrTbVal _ => "wr.tb.TB_VAL"
  | .wrTbCal _ => "wr.tb.TB_CAL"
  | .wrTbQuant _ => "wr.tb.TB_QUANT"
  | .wrTbReserved5 _ => "wr.tb.reserved5-5"
  | .wrTbReserved6to7 _ _ => "wr.tb.reserved6-7"
  | .wrTbReserved8to15 _ _ => "wr.tb.reserved8-15"
  | .rdTbCtrl => "rd.tb.TB_CTRL"
  | .rdTbLoad => "rd.tb.TB_LOAD"
  | .rdTbVal => "rd.tb.TB_VAL"
  | .rdTbCal => "rd.tb.TB_CAL"
  | .rdTbQuant => "rd.tb.TB_QUANT"
  | .rdTbReserved5 => "rd.tb.reserved5-5"
  | .rdTbReserved6to7 _ => "rd.tb.reserved6-7"
  | .rdTbReserved8to15 _ => "rd.tb.reserved8-15"
  | .ldB _ _ => "ld.b"
  | .ldH _ _ => "ld.h"
  | .ldW _ _ => "ld.w"
  | .stB _ _ _ => "st.b"
  | .stH _ _ _ => "st.h"
  | .stW _ _ _ => "st.w"
  | .evByte _ _ => "ev.byte"
  | .evIdle _ => "ev.idle"
  | .evDxfer _ => "ev.dxfer"
  | .evFtick _ => "ev.ftick"
  | .evDidle _ => "ev.didle"
  | .evDexp _ => "ev.dexp"
  | .evDerr _ => "ev.derr"
  | .evTtick => "ev.ttick"

/-- The agent whose step the operation is (10_state.md R22); a refused word is no agent's. -/
def Instr.agent (i : Instr) : Option Agent :=
  match i with
  | .refuseClass6 _ _ _ => none
  | .refuseClass7 _ _ _ => none
  | .refuseCh3Class0 _ _ => none
  | .refuseCh3Class1 _ _ => none
  | .refuseCh3Class8 _ _ => none
  | .refuseCh3Class9 _ _ => none
  | .refuseCh3ClassA _ _ => none
  | .refuseCh3ClassB _ _ => none
  | .refuseCh3ClassC _ _ => none
  | .refuseCh3ClassD _ _ => none
  | .refuseCh3ClassF _ _ => none
  | .refuseSz3Class0 _ _ => none
  | .refuseSz3Class1 _ _ => none
  | .refuseSz3Class2 _ _ => none
  | .refuseSz3Class3 _ _ => none
  | .refuseSz3Class4 _ _ => none
  | .refuseSz3Class5 _ _ => none
  | .wrChSz0 _ _ _ => some .host
  | .wrChSz1 _ _ _ => some .host
  | .rdChSz0 _ _ => some .host
  | .rdChSz1 _ _ => some .host
  | .wrTbSz0 _ _ => some .host
  | .wrTbSz1 _ _ => some .host
  | .rdTbSz0 _ => some .host
  | .rdTbSz1 _ => some .host
  | .cmdInit _ => some .host
  | .cmdReset _ => some .host
  | .cmdPrst _ => some .host
  | .cmdBad _ _ => some .host
  | .wrChBaud _ _ => some .host
  | .wrChStat _ _ => some .host
  | .wrChLen _ _ => some .host
  | .wrChCnt _ _ => some .host
  | .wrChTcnt _ _ => some .host
  | .wrChCap _ _ => some .host
  | .wrChBuf _ _ => some .host
  | .wrChTper _ _ => some .host
  | .wrChReserved9 _ _ => some .host
  | .wrChReserved10to11 _ _ _ => some .host
  | .wrChReserved12to15 _ _ _ => some .host
  | .rdChCmd _ => some .host
  | .rdChStat _ => some .host
  | .rdChLen _ => some .host
  | .rdChCnt _ => some .host
  | .rdChBaud _ => some .host
  | .rdChTcnt _ => some .host
  | .rdChCap _ => some .host
  | .rdChBuf _ => some .host
  | .rdChTper _ => some .host
  | .rdChReserved9 _ => some .host
  | .rdChReserved10to11 _ _ => some .host
  | .rdChReserved12to15 _ _ => some .host
  | .wrTbCtrl _ => some .host
  | .wrTbLoad _ => some .host
  | .wrTbVal _ => some .host
  | .wrTbCal _ => some .host
  | .wrTbQuant _ => some .host
  | .wrTbReserved5 _ => some .host
  | .wrTbReserved6to7 _ _ => some .host
  | .wrTbReserved8to15 _ _ => some .host
  | .rdTbCtrl => some .host
  | .rdTbLoad => some .host
  | .rdTbVal => some .host
  | .rdTbCal => some .host
  | .rdTbQuant => some .host
  | .rdTbReserved5 => some .host
  | .rdTbReserved6to7 _ => some .host
  | .rdTbReserved8to15 _ => some .host
  | .ldB _ _ => some .host
  | .ldH _ _ => some .host
  | .ldW _ _ => some .host
  | .stB _ _ _ => some .host
  | .stH _ _ _ => some .host
  | .stW _ _ _ => some .host
  | .evByte c _ => some (.line c)
  | .evIdle c => some (.line c)
  | .evDxfer c => some (.dma c)
  | .evFtick c => some (.frameTimer c)
  | .evDidle c => some (.detector c)
  | .evDexp c => some (.detector c)
  | .evDerr c => some (.line c)
  | .evTtick => some .timeBase

/-- The channel an operation of a channel class acts on. Buffer accesses name their channel by address
(30_encoding.md R103) and are not counted here. -/
def Instr.chan? (i : Instr) : Option Chan :=
  match i with
  | .refuseClass6 _ _ _ => none
  | .refuseClass7 _ _ _ => none
  | .refuseCh3Class0 _ _ => none
  | .refuseCh3Class1 _ _ => none
  | .refuseCh3Class8 _ _ => none
  | .refuseCh3Class9 _ _ => none
  | .refuseCh3ClassA _ _ => none
  | .refuseCh3ClassB _ _ => none
  | .refuseCh3ClassC _ _ => none
  | .refuseCh3ClassD _ _ => none
  | .refuseCh3ClassF _ _ => none
  | .refuseSz3Class0 _ _ => none
  | .refuseSz3Class1 _ _ => none
  | .refuseSz3Class2 _ _ => none
  | .refuseSz3Class3 _ _ => none
  | .refuseSz3Class4 _ _ => none
  | .refuseSz3Class5 _ _ => none
  | .wrChSz0 c _ _ => some c
  | .wrChSz1 c _ _ => some c
  | .rdChSz0 c _ => some c
  | .rdChSz1 c _ => some c
  | .wrTbSz0 _ _ => none
  | .wrTbSz1 _ _ => none
  | .rdTbSz0 _ => none
  | .rdTbSz1 _ => none
  | .cmdInit c => some c
  | .cmdReset c => some c
  | .cmdPrst c => some c
  | .cmdBad c _ => some c
  | .wrChBaud c _ => some c
  | .wrChStat c _ => some c
  | .wrChLen c _ => some c
  | .wrChCnt c _ => some c
  | .wrChTcnt c _ => some c
  | .wrChCap c _ => some c
  | .wrChBuf c _ => some c
  | .wrChTper c _ => some c
  | .wrChReserved9 c _ => some c
  | .wrChReserved10to11 c _ _ => some c
  | .wrChReserved12to15 c _ _ => some c
  | .rdChCmd c => some c
  | .rdChStat c => some c
  | .rdChLen c => some c
  | .rdChCnt c => some c
  | .rdChBaud c => some c
  | .rdChTcnt c => some c
  | .rdChCap c => some c
  | .rdChBuf c => some c
  | .rdChTper c => some c
  | .rdChReserved9 c => some c
  | .rdChReserved10to11 c _ => some c
  | .rdChReserved12to15 c _ => some c
  | .wrTbCtrl _ => none
  | .wrTbLoad _ => none
  | .wrTbVal _ => none
  | .wrTbCal _ => none
  | .wrTbQuant _ => none
  | .wrTbReserved5 _ => none
  | .wrTbReserved6to7 _ _ => none
  | .wrTbReserved8to15 _ _ => none
  | .rdTbCtrl => none
  | .rdTbLoad => none
  | .rdTbVal => none
  | .rdTbCal => none
  | .rdTbQuant => none
  | .rdTbReserved5 => none
  | .rdTbReserved6to7 _ => none
  | .rdTbReserved8to15 _ => none
  | .ldB _ _ => none
  | .ldH _ _ => none
  | .ldW _ _ => none
  | .stB _ _ _ => none
  | .stH _ _ _ => none
  | .stW _ _ _ => none
  | .evByte c _ => some c
  | .evIdle c => some c
  | .evDxfer c => some c
  | .evFtick c => some c
  | .evDidle c => some c
  | .evDexp c => some c
  | .evDerr c => some c
  | .evTtick => none

/-! ### The opcode table as data (spec/opcode_table.json, R107) -/

/-- The operand condition of a row: only the CMD rows have one (R107, R108). -/
inductive OperandCond where
  | any
  | equals (v : Word)
  | noCommand
deriving DecidableEq, Repr, Inhabited

/-- Does the operand meet the condition? -/
def OperandCond.holds (k : OperandCond) (data : Word) : Bool :=
  match k with
  | .any => true
  | .equals v => data == v
  | .noCommand => data != 1#32 && data != 2#32 && data != 3#32

/-- One row: its mnemonic, the bits it fixes, their values, and its operand condition. -/
structure Row where
  mnemonic : String
  mask     : BitVec 16
  pattern  : BitVec 16
  operand  : OperandCond
deriving DecidableEq, Repr, Inhabited

/-- Does the row match the word and its operand? -/
def Row.hits (r : Row) (o : OpWord) : Bool :=
  (o.word &&& r.mask) == r.pattern && r.operand.holds o.operand1

/-- The rows of priorities 0, 1 and 2: the refused words. -/
def rowsRefused : List Row :=
  [ ⟨"refuse.class6", 0xF000#16, 0x6000#16, .any⟩
  , ⟨"refuse.class7", 0xF000#16, 0x7000#16, .any⟩
  , ⟨"refuse.ch3.class0", 0xFC00#16, 0x0C00#16, .any⟩
  , ⟨"refuse.ch3.class1", 0xFC00#16, 0x1C00#16, .any⟩
  , ⟨"refuse.ch3.class8", 0xFC00#16, 0x8C00#16, .any⟩
  , ⟨"refuse.ch3.class9", 0xFC00#16, 0x9C00#16, .any⟩
  , ⟨"refuse.ch3.classA", 0xFC00#16, 0xAC00#16, .any⟩
  , ⟨"refuse.ch3.classB", 0xFC00#16, 0xBC00#16, .any⟩
  , ⟨"refuse.ch3.classC", 0xFC00#16, 0xCC00#16, .any⟩
  , ⟨"refuse.ch3.classD", 0xFC00#16, 0xDC00#16, .any⟩
  , ⟨"refuse.ch3.classF", 0xFC00#16, 0xFC00#16, .any⟩
  , ⟨"refuse.sz3.class0", 0xF300#16, 0x0300#16, .any⟩
  , ⟨"refuse.sz3.class1", 0xF300#16, 0x1300#16, .any⟩
  , ⟨"refuse.sz3.class2", 0xF300#16, 0x2300#16, .any⟩
  , ⟨"refuse.sz3.class3", 0xF300#16, 0x3300#16, .any⟩
  , ⟨"refuse.sz3.class4", 0xF300#16, 0x4300#16, .any⟩
  , ⟨"refuse.sz3.class5", 0xF300#16, 0x5300#16, .any⟩
  ]

/-- The rows of narrow register accesses and of CMD. -/
def rowsWidthCmd : List Row :=
  [ ⟨"wr.ch.sz0", 0xF300#16, 0x0000#16, .any⟩
  , ⟨"wr.ch.sz1", 0xF300#16, 0x0100#16, .any⟩
  , ⟨"rd.ch.sz0", 0xF300#16, 0x1000#16, .any⟩
  , ⟨"rd.ch.sz1", 0xF300#16, 0x1100#16, .any⟩
  , ⟨"wr.tb.sz0", 0xF300#16, 0x2000#16, .any⟩
  , ⟨"wr.tb.sz1", 0xF300#16, 0x2100#16, .any⟩
  , ⟨"rd.tb.sz0", 0xF300#16, 0x3000#16, .any⟩
  , ⟨"rd.tb.sz1", 0xF300#16, 0x3100#16, .any⟩
  , ⟨"cmd.init", 0xF30F#16, 0x0200#16, .equals 1#32⟩
  , ⟨"cmd.reset", 0xF30F#16, 0x0200#16, .equals 2#32⟩
  , ⟨"cmd.prst", 0xF30F#16, 0x0200#16, .equals 3#32⟩
  , ⟨"cmd.bad", 0xF30F#16, 0x0200#16, .noCommand⟩
  ]

/-- The rows of channel registers. -/
def rowsChan : List Row :=
  [ ⟨"wr.ch.BAUD", 0xF30F#16, 0x0204#16, .any⟩
  , ⟨"wr.ch.STAT", 0xF30F#16, 0x0201#16, .any⟩
  , ⟨"wr.ch.LEN", 0xF30F#16, 0x0202#16, .any⟩
  , ⟨"wr.ch.CNT", 0xF30F#16, 0x0203#16, .any⟩
  , ⟨"wr.ch.TCNT", 0xF30F#16, 0x0205#16, .any⟩
  , ⟨"wr.ch.CAP", 0xF30F#16, 0x0206#16, .any⟩
  , ⟨"wr.ch.BUF", 0xF30F#16, 0x0207#16, .any⟩
  , ⟨"wr.ch.TPER", 0xF30F#16, 0x0208#16, .any⟩
  , ⟨"wr.ch.reserved9-9", 0xF30F#16, 0x0209#16, .any⟩
  , ⟨"wr.ch.reserved10-11", 0xF30E#16, 0x020A#16, .any⟩
  , ⟨"wr.ch.reserved12-15", 0xF30C#16, 0x020C#16, .any⟩
  , ⟨"rd.ch.CMD", 0xF30F#16, 0x1200#16, .any⟩
  , ⟨"rd.ch.STAT", 0xF30F#16, 0x1201#16, .any⟩
  , ⟨"rd.ch.LEN", 0xF30F#16, 0x1202#16, .any⟩
  , ⟨"rd.ch.CNT", 0xF30F#16, 0x1203#16, .any⟩
  , ⟨"rd.ch.BAUD", 0xF30F#16, 0x1204#16, .any⟩
  , ⟨"rd.ch.TCNT", 0xF30F#16, 0x1205#16, .any⟩
  , ⟨"rd.ch.CAP", 0xF30F#16, 0x1206#16, .any⟩
  , ⟨"rd.ch.BUF", 0xF30F#16, 0x1207#16, .any⟩
  , ⟨"rd.ch.TPER", 0xF30F#16, 0x1208#16, .any⟩
  , ⟨"rd.ch.reserved9-9", 0xF30F#16, 0x1209#16, .any⟩
  , ⟨"rd.ch.reserved10-11", 0xF30E#16, 0x120A#16, .any⟩
  , ⟨"rd.ch.reserved12-15", 0xF30C#16, 0x120C#16, .any⟩
  ]

/-- The rows of time-base registers. -/
def rowsTb : List Row :=
  [ ⟨"wr.tb.TB_CTRL", 0xF30F#16, 0x2200#16, .any⟩
  , ⟨"wr.tb.TB_LOAD", 0xF30F#16, 0x2201#16, .any⟩
  , ⟨"wr.tb.TB_VAL", 0xF30F#16, 0x2202#16, .any⟩
  , ⟨"wr.tb.TB_CAL", 0xF30F#16, 0x2203#16, .any⟩
  , ⟨"wr.tb.TB_QUANT", 0xF30F#16, 0x2204#16, .any⟩
  , ⟨"wr.tb.reserved5-5", 0xF30F#16, 0x2205#16, .any⟩
  , ⟨"wr.tb.reserved6-7", 0xF30E#16, 0x2206#16, .any⟩
  , ⟨"wr.tb.reserved8-15", 0xF308#16, 0x2208#16, .any⟩
  , ⟨"rd.tb.TB_CTRL", 0xF30F#16, 0x3200#16, .any⟩
  , ⟨"rd.tb.TB_LOAD", 0xF30F#16, 0x3201#16, .any⟩
  , ⟨"rd.tb.TB_VAL", 0xF30F#16, 0x3202#16, .any⟩
  , ⟨"rd.tb.TB_CAL", 0xF30F#16, 0x3203#16, .any⟩
  , ⟨"rd.tb.TB_QUANT", 0xF30F#16, 0x3204#16, .any⟩
  , ⟨"rd.tb.reserved5-5", 0xF30F#16, 0x3205#16, .any⟩
  , ⟨"rd.tb.reserved6-7", 0xF30E#16, 0x3206#16, .any⟩
  , ⟨"rd.tb.reserved8-15", 0xF308#16, 0x3208#16, .any⟩
  ]

/-- The rows of buffer accesses and events. -/
def rowsMemEvent : List Row :=
  [ ⟨"ld.b", 0xF300#16, 0x4000#16, .any⟩
  , ⟨"ld.h", 0xF300#16, 0x4100#16, .any⟩
  , ⟨"ld.w", 0xF300#16, 0x4200#16, .any⟩
  , ⟨"st.b", 0xF300#16, 0x5000#16, .any⟩
  , ⟨"st.h", 0xF300#16, 0x5100#16, .any⟩
  , ⟨"st.w", 0xF300#16, 0x5200#16, .any⟩
  , ⟨"ev.byte", 0xF000#16, 0x8000#16, .any⟩
  , ⟨"ev.idle", 0xF000#16, 0x9000#16, .any⟩
  , ⟨"ev.dxfer", 0xF000#16, 0xA000#16, .any⟩
  , ⟨"ev.ftick", 0xF000#16, 0xB000#16, .any⟩
  , ⟨"ev.didle", 0xF000#16, 0xC000#16, .any⟩
  , ⟨"ev.dexp", 0xF000#16, 0xD000#16, .any⟩
  , ⟨"ev.derr", 0xF000#16, 0xF000#16, .any⟩
  , ⟨"ev.ttick", 0xF000#16, 0xE000#16, .any⟩
  ]

/-- The whole table, in priority order (R107). -/
def opcodeTable : List Row := rowsRefused ++ rowsWidthCmd ++ rowsChan ++ rowsTb ++ rowsMemEvent

/-! ### The host's numbering of bits -/

/-- The operation word and operands laid out in the number `w`: bits 15:0 are the word, bits 47:16 the first
operand, bits 79:48 the second; bits from `nbits` up are 0 (log 17). -/
def OpWord.ofTableWord (nbits w : Nat) : OpWord :=
  let v := w % 2 ^ nbits
  ⟨BitVec.ofNat 16 v, BitVec.ofNat 32 (v >>> 16), BitVec.ofNat 32 (v >>> 48)⟩

/-- The instruction this decoder reads from the bits `w` (log 17); none when there is no whole word. -/
def decodeTableWord (nbits w : Nat) : Option Instr :=
  if nbits < 16 then none else some (decode (OpWord.ofTableWord nbits w))

end Sys2Proof
end

