-- ==== Sys2Proof/Config.lean ====
section
/-! DEFINITION. Config.lean: the parameters of 00_scope.md R7, and the free values the spec leaves open.
The configuration is plain data carried by State and changed by no operation (10_state.md R24; log 1). -/

namespace Sys2Proof

/-- When the line may raise an idle condition (41_receive_dma.md R162; 92_eei_decisions.md D25). -/
inductive IdlePolicy where
  | loose   -- at any time
  | strict  -- only after a byte since the last idle
deriving DecidableEq, Repr, Inhabited

/-- The parameters of one channel (00_scope.md R7, R8). -/
structure ChanConfig where
  /-- `CAP[i]`: ring capacity in bytes, 1..65535. -/
  cap     : Half
  /-- `BUF[i]`: byte address of the buffer of CAP+1 bytes. -/
  buf     : Word
  /-- `TPER[i]`: frame-timer timeout in ticks, 1..65536. -/
  tper    : BitVec 17
  /-- `UART_ID[i]`: an opaque label, read by no rule (log 12). -/
  uartId  : Nat
  /-- `DMA_ID[i]`: an opaque label, read by no rule. -/
  dmaId   : Nat
  /-- `TIMER_ID[i]`: an opaque label, read by no rule. -/
  timerId : Nat
deriving DecidableEq, Repr, Inhabited

/-- The configuration of one block (00_scope.md R7). -/
structure Config where
  ch             : PerChan ChanConfig
  /-- `BLK_BASE`: base of the 256-byte register window. -/
  blkBase        : Word
  /-- `TBW`: width of the time-base counter in bits, 1..32. -/
  tbw            : Nat
  idlePolicy     : IdlePolicy
  /-- `DMA_ERR_DISABLES`: a DMA error also disables the DMA channel (41_receive_dma.md R164). -/
  dmaErrDisables : Bool
  /-- `F_TB[0]`: tick frequency in Hz for CLKSRC = 0, read by no rule (log 12). -/
  fTb0           : Rat
  /-- `F_TB[1]`: tick frequency in Hz for CLKSRC = 1. -/
  fTb1           : Rat
deriving DecidableEq, Repr, Inhabited

/-- Do the inclusive address ranges `[a, b]` and `[c, d]` share no address? -/
def Config.apart (a b c d : Nat) : Bool := decide (b < c) || decide (d < a)

/-- First address of channel `c`'s buffer, as a number. -/
def Config.bufLo (cfg : Config) (c : Chan) : Nat := (cfg.ch.get c).buf.toNat

/-- Last address of channel `c`'s buffer, the sentinel slot `BUF[i] + CAP[i]` (20_memory.md R71). -/
def Config.bufHi (cfg : Config) (c : Chan) : Nat := cfg.bufLo c + (cfg.ch.get c).cap.toNat

/-- First address of the register window. -/
def Config.winLo (cfg : Config) : Nat := cfg.blkBase.toNat

/-- Last address of the register window. -/
def Config.winHi (cfg : Config) : Nat := cfg.blkBase.toNat + 0xFF

/-- The ranges of one channel's parameters, its buffer inside the address space and apart from the window. -/
def Config.chanWf (cfg : Config) (c : Chan) : Bool :=
  decide (1 ≤ (cfg.ch.get c).cap.toNat) &&
  decide (1 ≤ (cfg.ch.get c).tper.toNat) && decide ((cfg.ch.get c).tper.toNat ≤ 65536) &&
  decide (cfg.bufHi c < 2 ^ 32) &&
  Config.apart (cfg.bufLo c) (cfg.bufHi c) cfg.winLo cfg.winHi

/-- The configuration is well formed (00_scope.md R7). -/
def Config.wf (cfg : Config) : Bool :=
  cfg.chanWf .c0 && cfg.chanWf .c1 && cfg.chanWf .c2 &&
  Config.apart (cfg.bufLo .c0) (cfg.bufHi .c0) (cfg.bufLo .c1) (cfg.bufHi .c1) &&
  Config.apart (cfg.bufLo .c0) (cfg.bufHi .c0) (cfg.bufLo .c2) (cfg.bufHi .c2) &&
  Config.apart (cfg.bufLo .c1) (cfg.bufHi .c1) (cfg.bufLo .c2) (cfg.bufHi .c2) &&
  decide (cfg.winHi < 2 ^ 32) && decide (cfg.blkBase.toNat % 0x100 = 0) &&
  decide (1 ≤ cfg.tbw) && decide (cfg.tbw ≤ 32) &&
  decide (0 < cfg.fTb0) && decide (0 < cfg.fTb1)

/-- FREE VALUE. The parameters of the platform: every one is open (00_scope.md R7), so nothing is known of them.
Statements quantify over the state's own configuration (log 1). DESIGN CHOICE, safe. -/
opaque Config.platform : Config

/-- A well-formed configuration that stands in where the platform's is ill formed; no value of it is the spec's
(log 1). -/
def Config.standIn : Config where
  ch := ⟨⟨1#16, 0x100#32, 1#17, 0, 0, 0⟩, ⟨1#16, 0x200#32, 1#17, 1, 1, 1⟩, ⟨1#16, 0x300#32, 1#17, 2, 2, 2⟩⟩
  blkBase := 0#32
  tbw := 1
  idlePolicy := .loose
  dmaErrDisables := false
  fTb0 := 1
  fTb1 := 1

/-- The configuration the block is launched with: the platform's, never an ill-formed one (60_exceptions.md R304,
92_eei_decisions.md D39; log 1). -/
def Config.launched : Config := if Config.platform.wf then Config.platform else Config.standIn

/-- FREE VALUE. The byte the buffer address `a` holds at launch: `draw(0..255)`, independent per byte and
fixed for the launch (10_state.md R43; log 9). DESIGN CHOICE, safe. -/
opaque Config.launchByte : (a : Nat) → Byte

/-- FREE VALUE. Does the `n`-th overrun of channel `c` keep the old byte (otherwise the new one)?
`draw({ch.hold, b})` of 41_receive_dma.md R161 (log 8). DESIGN CHOICE, safe. -/
opaque Config.overrunKeepsOld : (c : Chan) → (n : Nat) → Bool

/-- FREE VALUE. What the host is left holding after an operation that returned it no value, when `seen` is what it
held after its operations so far (60_exceptions.md R300, R301; log 25). DESIGN CHOICE, safe. -/
opaque Config.unreturned : (seen : List Word) → Word

end Sys2Proof
end

