-- ==== Sys2Proof/Machine/State.lean ====
section
/-! DEFINITION. State.lean: every piece of state the spec gives the block (10_state.md), and power-on
(70_reset_and_hazards.md R340). Flags of one bit are Bools; CFLAG keeps its two bits. -/

namespace Sys2Proof.Machine

/-- The state of one channel (10_state.md section 3). -/
structure Channel where
  /-- The channel has been initialised (R25). -/
  inited   : Bool
  /-- The BAUD register (R26). -/
  baud     : Word
  /-- The copy of BAUD that INIT latched (R26). -/
  baudAct  : Word
  /-- The UART's one-byte holding register (R27). -/
  hold     : Option Byte
  /-- Overrun flag ORERR (R28). -/
  orerr    : Bool
  /-- A byte has arrived since the last idle condition (R29). -/
  idleSeen : Bool
  /-- Idle-condition flag IDLEF (R30). -/
  idlef    : Bool
  /-- DMA channel enable DEN (R31). -/
  den      : Bool
  /-- DMA remaining count (R32). -/
  cnt      : Half
  /-- DMA full-transfer-complete flag FTF (R33). -/
  ftf      : Bool
  /-- DMA error flag DERR (R34). -/
  derr     : Bool
  /-- Frame-timer enable TEN (R35). -/
  ten      : Bool
  /-- Frame-timer counter (R36). -/
  tcnt     : Half
  /-- Frame-timer expiry flag UPIF (R37). -/
  upif     : Bool
  /-- Received length (R38). -/
  len      : Half
  /-- CFLAG: 0 idle, 1 frame-ready, 2 idle-seen-once, 3 reserved (R39). -/
  cflag    : BitVec 2
deriving DecidableEq, Repr, Inhabited

/-- The time base (10_state.md section 4). `load` and `val` are TBW bits wide, held in 32 (log 11). -/
structure TimeBase where
  en     : Bool
  clksrc : Bool
  load   : Word
  val    : Word
  cal    : Word
  quant  : Word
deriving DecidableEq, Repr, Inhabited

/-- The fault codes of 60_exceptions.md R302. They are records of the model and not stops (log 5). -/
inductive FaultCode where
  | badReg | badWidth | writeRo | readWo | badCmd | initArmed | notInit | bufWrite | bufAlign
deriving DecidableEq, Repr, Inhabited

/-- The refusal reasons of 60_exceptions.md R303. -/
inductive RefusalReason where
  | badClass | badChannel | badSize | outside
deriving DecidableEq, Repr, Inhabited

/-- A set of fault codes, `S.faults` (10_state.md R44): one membership bit per code (log 18). -/
structure FaultSet where
  badReg    : Bool
  badWidth  : Bool
  writeRo   : Bool
  readWo    : Bool
  badCmd    : Bool
  initArmed : Bool
  notInit   : Bool
  bufWrite  : Bool
  bufAlign  : Bool
deriving DecidableEq, Repr, Inhabited

/-- How the last operation ended (the MODEL's own, log 7): nothing performed yet, performed with no value,
a 32-bit value returned to the host (30_encoding.md R101), a fault recorded, a word refused. The host sees of it only
a returned value (60_exceptions.md R300; log 25). -/
inductive Report where
  | idle
  | done
  | value (v : Word)
  | faulted (code : FaultCode)
  | refused (why : RefusalReason)
deriving DecidableEq, Repr, Inhabited

/-- The bytes written since launch: (address, byte) pairs, addresses strictly rising. An unlisted address has
no written byte; reading it gives its launch draw (10_state.md R43; log 9). -/
abbrev Memory := List Host.Cell

/-- The state of the block. -/
structure State where
  /-- The configuration: no operation changes it (10_state.md R24; log 1). -/
  cfg     : Config
  /-- `S.ch[i]`. -/
  ch      : PerChan Channel
  /-- `S.tb`. -/
  tb      : TimeBase
  /-- `S.mem`. -/
  mem     : Memory
  /-- `S.faults`: sticky (10_state.md R44). -/
  faults  : FaultSet
  /-- `S.refused`: never cleared (30_encoding.md R112). -/
  refused : Bool
  /-- MODEL's own: overruns drawn so far on each channel (log 8). -/
  draws   : PerChan Nat
  /-- MODEL's own: how the last operation ended (log 7). -/
  report  : Report
  /-- MODEL's own: the operations still to be performed, oldest first (10_state.md R23; log 2). -/
  sched   : List Request
deriving DecidableEq, Repr

/-- Why the machine stops. Neither is a fault of the spec: those are records (60_exceptions.md R301). -/
inductive Fault where
  /-- Raised by ev.idle, ev.dxfer, ev.ftick, ev.didle, ev.dexp, ev.derr, ev.ttick where the operation's rule says
  it is not enabled: it has no step in that state (10_state.md R23; log 3). Safe. -/
  | notEnabled
  /-- Raised by the step when nothing is scheduled: the run has ended (70_reset_and_hazards.md R357; log 4). Safe. -/
  | scheduleEmpty
deriving DecidableEq, Repr, Inhabited

/-- Why an instruction has no meaning. -/
inductive Refusal where
  /-- Raised by an arm of exec whose instruction is not modelled yet; no arm raises it. Safe. -/
  | notModelled (mnemonic : String)
deriving DecidableEq, Repr, Inhabited

/-- A channel at power-on (10_state.md section 3, R340). -/
def Channel.powerOn : Channel where
  inited   := false
  baud     := 0#32
  baudAct  := 0#32
  hold     := none
  orerr    := false
  idleSeen := false
  idlef    := false
  den      := false
  cnt      := 0#16
  ftf      := false
  derr     := false
  ten      := false
  tcnt     := 0#16
  upif     := false
  len      := 0#16
  cflag    := 0#2

/-- The time base at power-on (10_state.md section 4, R340). -/
def TimeBase.powerOn : TimeBase where
  en     := false
  clksrc := false
  load   := 0#32
  val    := 0#32
  cal    := 0#32
  quant  := 0#32

/-- The empty set of fault codes. -/
def FaultSet.empty : FaultSet :=
  ⟨false, false, false, false, false, false, false, false, false⟩

/-- Power-on (70_reset_and_hazards.md R340) under the configuration `cfg`, with nothing scheduled (log 2). -/
def State.powerOn (cfg : Config) : State where
  cfg     := cfg
  ch      := ⟨Channel.powerOn, Channel.powerOn, Channel.powerOn⟩
  tb      := TimeBase.powerOn
  mem     := []
  faults  := FaultSet.empty
  refused := false
  draws   := ⟨0, 0, 0⟩
  report  := .idle
  sched   := []

/-- Launching the block: an ill-formed configuration is not launched (60_exceptions.md R304, 00_scope.md R7). -/
def State.launch (cfg : Config) : Option State := if cfg.wf then some (State.powerOn cfg) else none

/-- The block right after power-on, launched with an open well-formed configuration (log 1). -/
def State.reset : State := State.powerOn Config.launched

end Sys2Proof.Machine
end

