-- ==== Sys2Proof/Machine/Ops.lean ====
section
/-! DEFINITION. Ops.lean: the named operations over the state, and raising a fault and refusing a word as ONE
shared operation each (60_exceptions.md R301, R303). The block has no trap to enter and none to return from
(R300, R310, R311). -/

namespace Sys2Proof.Machine

/-- What exec and step answer. -/
abbrev Result := Host.Outcome State Fault Refusal

/-! ### Reading the state -/

/-- `S.ch[c]`. -/
def State.chan (s : State) (c : Chan) : Channel := s.ch.get c

/-- `CAP[c]`. -/
def State.cap (s : State) (c : Chan) : Half := (s.cfg.ch.get c).cap

/-- `BUF[c]`. -/
def State.buf (s : State) (c : Chan) : Word := (s.cfg.ch.get c).buf

/-- `TPER[c]`. -/
def State.tper (s : State) (c : Chan) : BitVec 17 := (s.cfg.ch.get c).tper

/-! ### Writing the state -/

/-- `s` with channel `c`'s state replaced. -/
def State.setChan (s : State) (c : Chan) (x : Channel) : State := { s with ch := s.ch.set c x }

/-- `s` with the time base replaced. -/
def State.setTb (s : State) (x : TimeBase) : State := { s with tb := x }

/-- `s` after an operation that returns no value (log 7). -/
def State.done (s : State) : State := { s with report := .done }

/-- `s` after a read that returns `v` to the host and changes nothing (20_memory.md R78). -/
def State.returns (s : State) (v : Word) : State := { s with report := .value v }

/-- `s` with `rest` still to be performed. -/
def State.withSched (s : State) (rest : List Request) : State := { s with sched := rest }

/-! ### Faults and refusals -/

/-- Is the code in the set? -/
def FaultSet.has (f : FaultSet) (code : FaultCode) : Bool :=
  match code with
  | .badReg => f.badReg
  | .badWidth => f.badWidth
  | .writeRo => f.writeRo
  | .readWo => f.readWo
  | .badCmd => f.badCmd
  | .initArmed => f.initArmed
  | .notInit => f.notInit
  | .bufWrite => f.bufWrite
  | .bufAlign => f.bufAlign

/-- The set with the code added. -/
def FaultSet.add (f : FaultSet) (code : FaultCode) : FaultSet :=
  match code with
  | .badReg => { f with badReg := true }
  | .badWidth => { f with badWidth := true }
  | .writeRo => { f with writeRo := true }
  | .readWo => { f with readWo := true }
  | .badCmd => { f with badCmd := true }
  | .initArmed => { f with initArmed := true }
  | .notInit => { f with notInit := true }
  | .bufWrite => { f with bufWrite := true }
  | .bufAlign => { f with bufAlign := true }

/-- The code's number (60_exceptions.md R302); no register shows it. -/
def FaultCode.number (code : FaultCode) : Nat :=
  match code with
  | .badReg => 0x01
  | .badWidth => 0x02
  | .writeRo => 0x03
  | .readWo => 0x04
  | .badCmd => 0x05
  | .initArmed => 0x06
  | .notInit => 0x07
  | .bufWrite => 0x08
  | .bufAlign => 0x09

/-- `raise Fault(code)`: the code joins `S.faults` and the operation has no other effect (60_exceptions.md R301;
log 5). -/
def raiseFault (code : FaultCode) (s : State) : State :=
  { s with faults := s.faults.add code, report := .faulted code }

/-- `refuse(reason)`: the whole-state mark `S.refused` is set and nothing else happens (30_encoding.md R112;
log 6). -/
def refuse (why : RefusalReason) (s : State) : State :=
  { s with refused := true, report := .refused why }

/-- An operation that has a step only where its rule enables it (10_state.md R23; log 3). -/
def whenEnabled (enabled : Bool) (t : State) : Result :=
  if enabled then .next t else .fault .notEnabled

/-! ### Memory -/

/-- The byte written at `a` since launch, if any. -/
def Memory.lookup (m : Memory) (a : Nat) : Option Byte :=
  match m with
  | [] => none
  | (k, b) :: rest => if a = k then some b else Memory.lookup rest a

/-- Memory after byte `b` is written at `a`, in canonical form. -/
def Memory.write (m : Memory) (a : Nat) (b : Byte) : Memory :=
  match m with
  | [] => [(a, b)]
  | (k, x) :: rest =>
    if a < k then (a, b) :: (k, x) :: rest
    else if a = k then (a, b) :: rest
    else (k, x) :: Memory.write rest a b

/-- Is every address of `m` above `lo`, and do they rise strictly? -/
def Memory.risesFrom (lo : Nat) (m : Memory) : Bool :=
  match m with
  | [] => true
  | (k, _) :: rest => decide (lo ≤ k) && Memory.risesFrom (k + 1) rest

/-- The canonical form: addresses strictly rising. An unlisted address has no written byte, so no entry can
equal what an unlisted address holds (log 9). -/
def Memory.wf (m : Memory) : Bool := Memory.risesFrom 0 m

/-- `S.mem[a]`: the last byte written, else the launch draw (20_memory.md R81, 10_state.md R43). -/
def Memory.byteAt (m : Memory) (a : Nat) : Byte := (Memory.lookup m a).getD (Config.launchByte a)

/-- `S.mem[a]`. -/
def State.memByte (s : State) (a : Nat) : Byte := s.mem.byteAt a

/-- `MemWrite(a, 1, b)`: the block's own writes are single bytes (20_memory.md R76). -/
def State.storeByte (s : State) (a : Word) (b : Byte) : State := { s with mem := s.mem.write a.toNat b }

/-- The address of index `idx` of channel `c`'s buffer, `BUF[c] + idx`. -/
def State.bufAddr (s : State) (c : Chan) (idx : Half) : Word := s.buf c + idx.setWidth 32

/-- The terminator byte (00_scope.md R7). -/
def sentinel : Byte := 0x00#8

/-! ### Sub-procedures of the channel -/

/-- ArmDma: disable, clear FTF and DERR, reprogram the count, re-enable (41_receive_dma.md R165). -/
def Channel.armDma (ch : Channel) (cap : Half) : Channel :=
  { ch with ftf := false, derr := false, cnt := cap, den := true }

/-- ArmTimer: restart the window; UPIF is not touched (42_frame_timer.md R182). -/
def Channel.armTimer (ch : Channel) : Channel := { ch with tcnt := 0#16, ten := true }

/-- DisarmTimer (42_frame_timer.md R183). -/
def Channel.disarmTimer (ch : Channel) : Channel := { ch with ten := false, tcnt := 0#16, upif := false }

/-- The raw length and write index `C - cnt` (41_receive_dma.md R163, R166). In 0..C-1 while armed (00_scope.md
R10); the subtraction wraps only in states no run reaches (log 10). -/
def Channel.rawLen (ch : Channel) (cap : Half) : Half := cap - ch.cnt

/-- The length the detector writes: raw length 0 with FTF set is read as a full ring (43_frame_detector.md R191,
R192, R194). -/
def Channel.frameLen (ch : Channel) (cap : Half) : Half :=
  if ch.rawLen cap = 0#16 ∧ ch.ftf = true then cap else ch.rawLen cap

/-- The byte that survives an overrun: a draw between the old and the new byte (41_receive_dma.md R161; log 8). -/
def drawByte (c : Chan) (n : Nat) (old new : Byte) : Byte :=
  if Config.overrunKeepsOld c n then old else new

/-- `s` after one more draw on channel `c`. -/
def State.countDraw (s : State) (c : Chan) : State :=
  { s with draws := s.draws.set c (s.draws.get c + 1) }

end Sys2Proof.Machine
end

