-- ==== Sys2Proof/Machine/Flags.lean ====
section
/-! DEFINITION. Flags.lean: the status flags as the host reads them, and the frame state (10_state.md R45, R49, R51). -/

namespace Sys2Proof.Machine

/-- RBNE: the holding register is not empty (10_state.md R27). -/
def Channel.rbne (ch : Channel) : Bool := ch.hold.isSome

/-- One status bit. -/
def flagBit (b : Bool) : BitVec 1 := BitVec.ofBool b

/-- STAT: `zext_32({inited, orerr, rbne, derr, ftf, den, idlef, upif, ten, cflag})` (10_state.md R49,
44_host_interface.md R218). -/
def Channel.statWord (ch : Channel) : Word :=
  (flagBit ch.inited ++ flagBit ch.orerr ++ flagBit ch.rbne ++ flagBit ch.derr ++ flagBit ch.ftf ++
    flagBit ch.den ++ flagBit ch.idlef ++ flagBit ch.upif ++ flagBit ch.ten ++ ch.cflag).setWidth 32

/-- TB_CTRL as read: `zext_32({clksrc, en})` (40_time_base.md R147). -/
def TimeBase.ctrlWord (tb : TimeBase) : Word := (flagBit tb.clksrc ++ flagBit tb.en).setWidth 32

/-- `is_frame_ready()`: `STAT[1:0] = 1` (44_host_interface.md R218, R229). -/
def frameReadyBits (stat : Word) : Bool := stat.extractLsb' 0 2 == 1#2

/-- The frame states of 10_state.md R45. -/
inductive FrameState where
  | uninit | idle | timerArmed | frameReady
deriving DecidableEq, Repr, Inhabited

/-- A channel's frame state, worked out and not stored (10_state.md R45). -/
def Channel.frameState (ch : Channel) : FrameState :=
  if ch.inited = false then .uninit
  else if ch.cflag = 1#2 then .frameReady
  else if ch.ten = true ∨ ch.upif = true then .timerArmed
  else .idle

end Sys2Proof.Machine
end

