-- ==== Sys2Proof/Machine/Operands.lean ====
section
/-! DEFINITION. Operands.lean: the operand forms: register contents, stored bits, buffer regions and buffer
reads (10_state.md R48-R50, 20_memory.md R71, R75). -/

namespace Sys2Proof.Machine

/-! ### Register contents -/

/-- The implemented bits of TB_LOAD and TB_VAL: `[TBW-1:0]` (10_state.md R50). -/
def tbMask (cfg : Config) : Word := BitVec.ofNat 32 (2 ^ cfg.tbw - 1)

/-- DATA masked to a TBW-bit register (30_encoding.md R103, 40_time_base.md R143). -/
def tbField (cfg : Config) (data : Word) : Word := data &&& tbMask cfg

/-- A 16-bit field read as a 32-bit register, reserved bits 0 (10_state.md R48, 30_encoding.md R110). -/
def halfWord (v : Half) : Word := v.setWidth 32

/-- TPER as read: 17 bits (10_state.md R48). -/
def tperWord (v : BitVec 17) : Word := v.setWidth 32

/-! ### Buffer regions -/

/-- Do all `n` bytes from `a` lie inside `BUFREG(c)`? In natural numbers, so nothing wraps (30_encoding.md R105;
log 22). -/
def inBuf (cfg : Config) (c : Chan) (a : Word) (n : Nat) : Bool :=
  decide (cfg.bufLo c ≤ a.toNat) && decide (a.toNat + n ≤ cfg.bufHi c + 1)

/-- The channel whose buffer holds all `n` bytes from `a` (30_encoding.md R103, R105). -/
def findBuf (cfg : Config) (a : Word) (n : Nat) : Option Chan :=
  if inBuf cfg .c0 a n then some .c0
  else if inBuf cfg .c1 a n then some .c1
  else if inBuf cfg .c2 a n then some .c2
  else none

/-! ### Buffer accesses -/

/-- `MemRead(a, n)` as a number: little-endian (20_memory.md R73, R75). -/
def Memory.readLe (m : Memory) (a n : Nat) : Nat :=
  match n with
  | 0 => 0
  | k + 1 => (m.byteAt a).toNat + 256 * Memory.readLe m (a + 1) k

/-- A host read of the buffer: region check, then alignment, then the value (44_host_interface.md R227,
60_exceptions.md R309). -/
def hostLoad (z : Size) (a : Word) (s : State) : State :=
  if (findBuf s.cfg a z.bytes).isNone then refuse .outside s
  else if a.toNat % z.bytes ≠ 0 then raiseFault .bufAlign s
  else s.returns (BitVec.ofNat 32 (s.mem.readLe a.toNat z.bytes))

/-- A host write of the buffer: region check, then F_BUF_WRITE; no alignment check (44_host_interface.md R228,
60_exceptions.md R309). -/
def hostStore (z : Size) (a : Word) (s : State) : State :=
  if (findBuf s.cfg a z.bytes).isNone then refuse .outside s
  else raiseFault .bufWrite s

end Sys2Proof.Machine
end

