-- ==== Sys2Proof/Machine/Bus.lean ====
section
/-! DEFINITION. Bus.lean: from a scheduled request to an operation word, a fault or a refusal (30_encoding.md
R100, R105). -/

namespace Sys2Proof.Machine

/-- What a request becomes before it is decoded. -/
inductive BusResult where
  | op (o : OpWord)
  | fault (code : FaultCode)
  | refused (why : RefusalReason)
deriving DecidableEq, Repr, Inhabited

/-- Is the address inside the register window `WIN` (20_memory.md R71)? -/
def inWindow (cfg : Config) (a : Word) : Bool :=
  decide (cfg.winLo ≤ a.toNat) && decide (a.toNat ≤ cfg.winHi)

/-- `szcode(w)` (30_encoding.md R105). -/
def sizeCode (w : Nat) : BitVec 2 :=
  match w with
  | 1 => 0#2
  | 2 => 1#2
  | _ => 2#2

/-- An aligned 32-bit access to the window, as an operation word (30_encoding.md R105). -/
def windowWord (cfg : Config) (a : BusAccess) : OpWord :=
  let off : Byte := (a.addr - cfg.blkBase).setWidth 8
  let blk : BitVec 2 := off.extractLsb' 6 2
  let arg : Byte := regArg (off.extractLsb' 2 4)
  match a.dir with
  | .write => ⟨packWord (if blk = 3#2 then 0x2#4 else 0x0#4) (if blk = 3#2 then 0#2 else blk) 2#2 arg, a.data, 0#32⟩
  | .read => ⟨packWord (if blk = 3#2 then 0x3#4 else 0x1#4) (if blk = 3#2 then 0#2 else blk) 2#2 arg, 0#32, 0#32⟩

/-- An access inside channel `c`'s buffer, as an operation word (30_encoding.md R105). -/
def bufferWord (c : Chan) (a : BusAccess) : OpWord :=
  match a.dir with
  | .write => ⟨packWord 0x5#4 c.toBits (sizeCode a.width) 0#8, a.addr, a.data⟩
  | .read => ⟨packWord 0x4#4 c.toBits (sizeCode a.width) 0#8, a.addr, 0#32⟩

/-- A bus access as an operation word, a fault or a refusal (30_encoding.md R105). An illegal width is refused
before anything else (60_exceptions.md R309; log 13). -/
def busToWord (cfg : Config) (a : BusAccess) : BusResult :=
  if a.width ≠ 1 ∧ a.width ≠ 2 ∧ a.width ≠ 4 then .refused .badSize
  else if inWindow cfg a.addr then
    if a.width ≠ 4 ∨ (a.addr - cfg.blkBase).toNat % 4 ≠ 0 then .fault .badWidth
    else .op (windowWord cfg a)
  else
    match findBuf cfg a.addr a.width with
    | some c => .op (bufferWord c a)
    | none => .refused .outside

/-- A scheduled request as an operation word, a fault or a refusal. -/
def translateRequest (cfg : Config) (r : Request) : BusResult :=
  match r with
  | .word o => .op o
  | .bus a => busToWord cfg a

end Sys2Proof.Machine
end

