-- ==== Sys2Proof/Machine/BufferAccess.lean ====
section
/-! DEFINITION. BufferAccess.lean: host accesses to buffer memory (44_host_interface.md section 4, 20_memory.md R75, R79). -/

namespace Sys2Proof.Machine

/-- `ld.b`: a byte read; OW[11:10] is ignored (R227, 30_encoding.md R103). -/
def execLdB (_ch : BitVec 2) (addr : Word) (s : State) : Result :=
  .next (hostLoad .byte addr s)

/-- `ld.h`: a half read; OW[11:10] is ignored (R227, 30_encoding.md R103). -/
def execLdH (_ch : BitVec 2) (addr : Word) (s : State) : Result :=
  .next (hostLoad .half addr s)

/-- `ld.w`: a word read; OW[11:10] is ignored (R227, 30_encoding.md R103). -/
def execLdW (_ch : BitVec 2) (addr : Word) (s : State) : Result :=
  .next (hostLoad .word addr s)

/-- `st.b`: a byte write faults F_BUF_WRITE and leaves memory unchanged (R228). -/
def execStB (_ch : BitVec 2) (addr : Word) (_data : Word) (s : State) : Result :=
  .next (hostStore .byte addr s)

/-- `st.h`: a half write faults F_BUF_WRITE and leaves memory unchanged (R228). -/
def execStH (_ch : BitVec 2) (addr : Word) (_data : Word) (s : State) : Result :=
  .next (hostStore .half addr s)

/-- `st.w`: a word write faults F_BUF_WRITE and leaves memory unchanged (R228). -/
def execStW (_ch : BitVec 2) (addr : Word) (_data : Word) (s : State) : Result :=
  .next (hostStore .word addr s)

end Sys2Proof.Machine
end

