-- ==== Sys2Proof/Machine/ChannelReads.lean ====
section
/-! DEFINITION. ChannelReads.lean: channel register reads; none changes state (44_host_interface.md section 3, 20_memory.md R78). -/

namespace Sys2Proof.Machine

/-- `rd.ch.CMD`: CMD is write-only: F_READ_WO, and no value is returned (R217). -/
def execRdChCmd (_c : Chan) (s : State) : Result :=
  .next (raiseFault .readWo s)

/-- `rd.ch.STAT`: returns STAT (R218). -/
def execRdChStat (c : Chan) (s : State) : Result :=
  .next (s.returns (s.chan c).statWord)

/-- `rd.ch.LEN`: returns LEN (R219). -/
def execRdChLen (c : Chan) (s : State) : Result :=
  .next (s.returns (halfWord (s.chan c).len))

/-- `rd.ch.CNT`: returns CNT (R220). -/
def execRdChCnt (c : Chan) (s : State) : Result :=
  .next (s.returns (halfWord (s.chan c).cnt))

/-- `rd.ch.BAUD`: returns BAUD (R221). -/
def execRdChBaud (c : Chan) (s : State) : Result :=
  .next (s.returns (s.chan c).baud)

/-- `rd.ch.TCNT`: returns TCNT (R222). -/
def execRdChTcnt (c : Chan) (s : State) : Result :=
  .next (s.returns (halfWord (s.chan c).tcnt))

/-- `rd.ch.CAP`: returns CAP (R223). -/
def execRdChCap (c : Chan) (s : State) : Result :=
  .next (s.returns (halfWord (s.cap c)))

/-- `rd.ch.BUF`: returns BUF (R224). -/
def execRdChBuf (c : Chan) (s : State) : Result :=
  .next (s.returns (s.buf c))

/-- `rd.ch.TPER`: returns TPER (R225). -/
def execRdChTper (c : Chan) (s : State) : Result :=
  .next (s.returns (tperWord (s.tper c)))

/-- `rd.ch.reserved9-9`: a reserved register faults F_BADREG (R216). -/
def execRdChReserved9 (_c : Chan) (s : State) : Result :=
  .next (raiseFault .badReg s)

/-- `rd.ch.reserved10-11`: a reserved register faults F_BADREG (R216). -/
def execRdChReserved10to11 (_c : Chan) (_reg : BitVec 4) (s : State) : Result :=
  .next (raiseFault .badReg s)

/-- `rd.ch.reserved12-15`: a reserved register faults F_BADREG (R216). -/
def execRdChReserved12to15 (_c : Chan) (_reg : BitVec 4) (s : State) : Result :=
  .next (raiseFault .badReg s)

end Sys2Proof.Machine
end

