-- ==== Sys2Proof/Machine/ChannelWrites.lean ====
section
/-! DEFINITION. ChannelWrites.lean: channel register writes other than CMD (44_host_interface.md R214-R216). -/

namespace Sys2Proof.Machine

/-- `wr.ch.BAUD`: store the baud-rate argument (R214). -/
def execWrChBaud (c : Chan) (data : Word) (s : State) : Result :=
  .next (s.setChan c { s.chan c with baud := data }).done

/-- `wr.ch.STAT`: a write to a read-only register faults F_WRITE_RO (R215). -/
def execWrChStat (_c : Chan) (_data : Word) (s : State) : Result :=
  .next (raiseFault .writeRo s)

/-- `wr.ch.LEN`: a write to a read-only register faults F_WRITE_RO (R215). -/
def execWrChLen (_c : Chan) (_data : Word) (s : State) : Result :=
  .next (raiseFault .writeRo s)

/-- `wr.ch.CNT`: a write to a read-only register faults F_WRITE_RO (R215). -/
def execWrChCnt (_c : Chan) (_data : Word) (s : State) : Result :=
  .next (raiseFault .writeRo s)

/-- `wr.ch.TCNT`: a write to a read-only register faults F_WRITE_RO (R215). -/
def execWrChTcnt (_c : Chan) (_data : Word) (s : State) : Result :=
  .next (raiseFault .writeRo s)

/-- `wr.ch.CAP`: a write to a read-only register faults F_WRITE_RO (R215). -/
def execWrChCap (_c : Chan) (_data : Word) (s : State) : Result :=
  .next (raiseFault .writeRo s)

/-- `wr.ch.BUF`: a write to a read-only register faults F_WRITE_RO (R215). -/
def execWrChBuf (_c : Chan) (_data : Word) (s : State) : Result :=
  .next (raiseFault .writeRo s)

/-- `wr.ch.TPER`: a write to a read-only register faults F_WRITE_RO (R215). -/
def execWrChTper (_c : Chan) (_data : Word) (s : State) : Result :=
  .next (raiseFault .writeRo s)

/-- `wr.ch.reserved9-9`: a reserved register faults F_BADREG (R216). -/
def execWrChReserved9 (_c : Chan) (_data : Word) (s : State) : Result :=
  .next (raiseFault .badReg s)

/-- `wr.ch.reserved10-11`: a reserved register faults F_BADREG (R216). -/
def execWrChReserved10to11 (_c : Chan) (_reg : BitVec 4) (_data : Word) (s : State) : Result :=
  .next (raiseFault .badReg s)

/-- `wr.ch.reserved12-15`: a reserved register faults F_BADREG (R216). -/
def execWrChReserved12to15 (_c : Chan) (_reg : BitVec 4) (_data : Word) (s : State) : Result :=
  .next (raiseFault .badReg s)

end Sys2Proof.Machine
end

