-- ==== Sys2Proof/Machine/Commands.lean ====
section
/-! DEFINITION. Commands.lean: the commands INIT, RESET, PRST and the bad command (44_host_interface.md section 1). -/

namespace Sys2Proof.Machine

/-- The channel INIT leaves: BAUD latched, receiver cleared, DMA armed, timer disarmed (44_host_interface.md R210). -/
def Channel.afterInit (ch : Channel) (cap : Half) : Channel :=
  Channel.disarmTimer (Channel.armDma
    { ch with inited := true, baudAct := ch.baud, hold := none, orerr := false, idleSeen := false, idlef := false,
              len := 0#16, cflag := 0#2 } cap)

/-- The channel RESET leaves: `hold`, `idle_seen`, `baud`, `baud_act` are kept (44_host_interface.md R211). -/
def Channel.afterReset (ch : Channel) (cap : Half) : Channel :=
  Channel.disarmTimer (Channel.armDma { ch with idlef := false, orerr := false, len := 0#16, cflag := 0#2 } cap)

/-- The channel PRST leaves (44_host_interface.md R212). -/
def Channel.afterPrst (ch : Channel) : Channel :=
  Channel.disarmTimer
    { ch with inited := false, baud := 0#32, baudAct := 0#32, hold := none, orerr := false, idleSeen := false,
              idlef := false, den := false, cnt := 0#16, ftf := false, derr := false, len := 0#16, cflag := 0#2 }

/-- `cmd.init`: INIT; F_INIT_ARMED when the channel is already initialised (R210). -/
def execCmdInit (c : Chan) (s : State) : Result :=
  .next (if (s.chan c).inited then raiseFault .initArmed s
    else (s.setChan c ((s.chan c).afterInit (s.cap c))).done)

/-- `cmd.reset`: RESET; F_NOT_INIT before INIT and after PRST (R211). -/
def execCmdReset (c : Chan) (s : State) : Result :=
  .next (if (s.chan c).inited then (s.setChan c ((s.chan c).afterReset (s.cap c))).done
    else raiseFault .notInit s)

/-- `cmd.prst`: PRST, legal in every state (R212). -/
def execCmdPrst (c : Chan) (s : State) : Result :=
  .next (s.setChan c (s.chan c).afterPrst).done

/-- `cmd.bad`: any other value faults F_BADCMD (R213). -/
def execCmdBad (_c : Chan) (_data : Word) (s : State) : Result :=
  .next (raiseFault .badCmd s)

end Sys2Proof.Machine
end

