-- ==== Sys2Proof/Machine/Detector.lean ====
section
/-! DEFINITION. Detector.lean: the frame-completion detector: DIDLE and DEXP (43_frame_detector.md). -/

namespace Sys2Proof.Machine

/-- The channel after the idle-line action: IDLEF cleared, `len` written, the timer armed unless the length is 0
(43_frame_detector.md R191). -/
def Channel.idleAction (ch : Channel) (cap : Half) : Channel :=
  if ch.frameLen cap = 0#16 then { ch with idlef := false, len := ch.frameLen cap }
  else Channel.armTimer { ch with idlef := false, len := ch.frameLen cap }

/-- The channel after the expiry action: UPIF cleared, `len` and CFLAG written (43_frame_detector.md R192). -/
def Channel.expiryAction (ch : Channel) (cap : Half) : Channel :=
  { ch with upif := false, len := ch.frameLen cap, cflag := 1#2 }

/-- The address DEXP writes the sentinel to: `BUF[c] + l` (43_frame_detector.md R192). -/
def State.sentinelAddr (s : State) (c : Chan) : Word := s.bufAddr c ((s.chan c).frameLen (s.cap c))

/-- `ev.didle`: DIDLE, enabled while IDLEF = 1 (R191). -/
def execEvDidle (c : Chan) (s : State) : Result :=
  whenEnabled (s.chan c).idlef (s.setChan c ((s.chan c).idleAction (s.cap c))).done

/-- `ev.dexp`: DEXP, enabled while UPIF = 1 (R192). -/
def execEvDexp (c : Chan) (s : State) : Result :=
  whenEnabled (s.chan c).upif
    ((s.storeByte (s.sentinelAddr c) sentinel).setChan c ((s.chan c).expiryAction (s.cap c))).done

end Sys2Proof.Machine
end

