-- ==== Sys2Proof/Machine/Dma.lean ====
section
/-! DEFINITION. Dma.lean: the DMA receive engine: DXFER (41_receive_dma.md section 3). -/

namespace Sys2Proof.Machine

/-- The channel after one transfer: at the end of a pass the count reloads and FTF is set (R163). -/
def Channel.transferred (ch : Channel) (cap : Half) : Channel :=
  if ch.cnt = 1#16 then { ch with hold := none, cnt := cap, ftf := true }
  else { ch with hold := none, cnt := ch.cnt - 1#16 }

/-- The address DXFER writes: `BUF[c] + (C - cnt)` (R163). -/
def State.dmaAddr (s : State) (c : Chan) : Word := s.bufAddr c ((s.chan c).rawLen (s.cap c))

/-- DXFER's effect on a held byte (R163). -/
def dmaTransfer (c : Chan) (b : Byte) (s : State) : State :=
  (s.storeByte (s.dmaAddr c) b).setChan c ((s.chan c).transferred (s.cap c))

/-- `ev.dxfer`: DXFER, enabled while DEN = 1 and a byte is held (R163). -/
def execEvDxfer (c : Chan) (s : State) : Result :=
  match (s.chan c).hold with
  | some b => whenEnabled (s.chan c).den (dmaTransfer c b s).done
  | none => .fault .notEnabled

end Sys2Proof.Machine
end

