-- ==== Sys2Proof/Machine/FrameTimer.lean ====
section
/-! DEFINITION. FrameTimer.lean: the frame timer: FTICK (42_frame_timer.md). -/

namespace Sys2Proof.Machine

/-- The channel after one frame-timer tick: the T-th tick since arming expires it (42_frame_timer.md R181). -/
def Channel.timerTicked (ch : Channel) (tper : BitVec 17) : Channel :=
  if ch.tcnt.toNat + 1 = tper.toNat then { ch with tcnt := 0#16, ten := false, upif := true }
  else { ch with tcnt := ch.tcnt + 1#16 }

/-- `ev.ftick`: FTICK, enabled while TEN = 1 (R181). -/
def execEvFtick (c : Chan) (s : State) : Result :=
  whenEnabled (s.chan c).ten (s.setChan c ((s.chan c).timerTicked (s.tper c))).done

end Sys2Proof.Machine
end

