-- ==== Sys2Proof/Machine/Line.lean ====
section
/-! DEFINITION. Line.lean: the line and bus environment of a channel: LBYTE, LIDLE, DERR (41_receive_dma.md). -/

namespace Sys2Proof.Machine

/-- May the line raise an idle condition in this state? (R162) -/
def idleEnabled (policy : IdlePolicy) (ch : Channel) : Bool :=
  match policy with
  | .loose => true
  | .strict => ch.inited && ch.idleSeen

/-- A byte arrives: dropped before INIT, held when the holding register is empty, else an overrun in which the old
or the new byte survives (R161; log 8). -/
def lineByte (c : Chan) (b : Byte) (s : State) : State :=
  if (s.chan c).inited then
    match (s.chan c).hold with
    | none => s.setChan c { s.chan c with hold := some b, idleSeen := true }
    | some old =>
      (s.setChan c { s.chan c with orerr := true, idleSeen := true,
                                   hold := some (drawByte c (s.draws.get c) old b) }).countDraw c
  else s

/-- `ev.byte`: LBYTE, always enabled (R161). -/
def execEvByte (c : Chan) (b : Byte) (s : State) : Result :=
  .next (lineByte c b s).done

/-- `ev.idle`: LIDLE, enabled by IDLE_POLICY; no change before INIT (R162). -/
def execEvIdle (c : Chan) (s : State) : Result :=
  whenEnabled (idleEnabled s.cfg.idlePolicy (s.chan c))
    (if (s.chan c).inited then s.setChan c { s.chan c with idlef := true, idleSeen := false } else s).done

/-- `ev.derr`: DERR, enabled while DEN = 1; DMA_ERR_DISABLES decides whether DEN falls (R164). -/
def execEvDerr (c : Chan) (s : State) : Result :=
  whenEnabled (s.chan c).den
    (s.setChan c { s.chan c with derr := true, den := (s.chan c).den && !s.cfg.dmaErrDisables }).done

end Sys2Proof.Machine
end

