-- ==== Sys2Proof/Machine/NarrowAccess.lean ====
section
/-! DEFINITION. NarrowAccess.lean: register accesses that are not 32 bits wide (44_host_interface.md R226). -/

namespace Sys2Proof.Machine

/-- `wr.ch.sz0`: F_BADWIDTH before every other check (44_host_interface.md R226, 60_exceptions.md R309). -/
def execWrChSz0 (_c : Chan) (_reg : BitVec 4) (_data : Word) (s : State) : Result :=
  .next (raiseFault .badWidth s)

/-- `wr.ch.sz1`: F_BADWIDTH before every other check (44_host_interface.md R226, 60_exceptions.md R309). -/
def execWrChSz1 (_c : Chan) (_reg : BitVec 4) (_data : Word) (s : State) : Result :=
  .next (raiseFault .badWidth s)

/-- `rd.ch.sz0`: F_BADWIDTH before every other check (44_host_interface.md R226, 60_exceptions.md R309). -/
def execRdChSz0 (_c : Chan) (_reg : BitVec 4) (s : State) : Result :=
  .next (raiseFault .badWidth s)

/-- `rd.ch.sz1`: F_BADWIDTH before every other check (44_host_interface.md R226, 60_exceptions.md R309). -/
def execRdChSz1 (_c : Chan) (_reg : BitVec 4) (s : State) : Result :=
  .next (raiseFault .badWidth s)

/-- `wr.tb.sz0`: F_BADWIDTH before every other check (44_host_interface.md R226, 60_exceptions.md R309). -/
def execWrTbSz0 (_reg : BitVec 4) (_data : Word) (s : State) : Result :=
  .next (raiseFault .badWidth s)

/-- `wr.tb.sz1`: F_BADWIDTH before every other check (44_host_interface.md R226, 60_exceptions.md R309). -/
def execWrTbSz1 (_reg : BitVec 4) (_data : Word) (s : State) : Result :=
  .next (raiseFault .badWidth s)

/-- `rd.tb.sz0`: F_BADWIDTH before every other check (44_host_interface.md R226, 60_exceptions.md R309). -/
def execRdTbSz0 (_reg : BitVec 4) (s : State) : Result :=
  .next (raiseFault .badWidth s)

/-- `rd.tb.sz1`: F_BADWIDTH before every other check (44_host_interface.md R226, 60_exceptions.md R309). -/
def execRdTbSz1 (_reg : BitVec 4) (s : State) : Result :=
  .next (raiseFault .badWidth s)

end Sys2Proof.Machine
end

