-- ==== Sys2Proof/Machine/RefusedWords.lean ====
section
/-! DEFINITION. RefusedWords.lean: the words that spell no operation: each sets `S.refused` (30_encoding.md R107, R111, R112, 60_exceptions.md R303). -/

namespace Sys2Proof.Machine

/-- `refuse.class6`: refused with REF_CLASS (30_encoding.md R111). -/
def execRefuseClass6 (_ch : BitVec 2) (_sz : BitVec 2) (_arg : Byte) (s : State) : Result :=
  .next (refuse .badClass s)

/-- `refuse.class7`: refused with REF_CLASS (30_encoding.md R111). -/
def execRefuseClass7 (_ch : BitVec 2) (_sz : BitVec 2) (_arg : Byte) (s : State) : Result :=
  .next (refuse .badClass s)

/-- `refuse.ch3.class0`: refused with REF_CHANNEL (30_encoding.md R111). -/
def execRefuseCh3Class0 (_sz : BitVec 2) (_arg : Byte) (s : State) : Result :=
  .next (refuse .badChannel s)

/-- `refuse.ch3.class1`: refused with REF_CHANNEL (30_encoding.md R111). -/
def execRefuseCh3Class1 (_sz : BitVec 2) (_arg : Byte) (s : State) : Result :=
  .next (refuse .badChannel s)

/-- `refuse.ch3.class8`: refused with REF_CHANNEL (30_encoding.md R111). -/
def execRefuseCh3Class8 (_sz : BitVec 2) (_arg : Byte) (s : State) : Result :=
  .next (refuse .badChannel s)

/-- `refuse.ch3.class9`: refused with REF_CHANNEL (30_encoding.md R111). -/
def execRefuseCh3Class9 (_sz : BitVec 2) (_arg : Byte) (s : State) : Result :=
  .next (refuse .badChannel s)

/-- `refuse.ch3.classA`: refused with REF_CHANNEL (30_encoding.md R111). -/
def execRefuseCh3ClassA (_sz : BitVec 2) (_arg : Byte) (s : State) : Result :=
  .next (refuse .badChannel s)

/-- `refuse.ch3.classB`: refused with REF_CHANNEL (30_encoding.md R111). -/
def execRefuseCh3ClassB (_sz : BitVec 2) (_arg : Byte) (s : State) : Result :=
  .next (refuse .badChannel s)

/-- `refuse.ch3.classC`: refused with REF_CHANNEL (30_encoding.md R111). -/
def execRefuseCh3ClassC (_sz : BitVec 2) (_arg : Byte) (s : State) : Result :=
  .next (refuse .badChannel s)

/-- `refuse.ch3.classD`: refused with REF_CHANNEL (30_encoding.md R111). -/
def execRefuseCh3ClassD (_sz : BitVec 2) (_arg : Byte) (s : State) : Result :=
  .next (refuse .badChannel s)

/-- `refuse.ch3.classF`: refused with REF_CHANNEL (30_encoding.md R111). -/
def execRefuseCh3ClassF (_sz : BitVec 2) (_arg : Byte) (s : State) : Result :=
  .next (refuse .badChannel s)

/-- `refuse.sz3.class0`: refused with REF_SIZE (30_encoding.md R111). -/
def execRefuseSz3Class0 (_c : Chan) (_arg : Byte) (s : State) : Result :=
  .next (refuse .badSize s)

/-- `refuse.sz3.class1`: refused with REF_SIZE (30_encoding.md R111). -/
def execRefuseSz3Class1 (_c : Chan) (_arg : Byte) (s : State) : Result :=
  .next (refuse .badSize s)

/-- `refuse.sz3.class2`: refused with REF_SIZE (30_encoding.md R111). -/
def execRefuseSz3Class2 (_ch : BitVec 2) (_arg : Byte) (s : State) : Result :=
  .next (refuse .badSize s)

/-- `refuse.sz3.class3`: refused with REF_SIZE (30_encoding.md R111). -/
def execRefuseSz3Class3 (_ch : BitVec 2) (_arg : Byte) (s : State) : Result :=
  .next (refuse .badSize s)

/-- `refuse.sz3.class4`: refused with REF_SIZE (30_encoding.md R111). -/
def execRefuseSz3Class4 (_ch : BitVec 2) (_arg : Byte) (s : State) : Result :=
  .next (refuse .badSize s)

/-- `refuse.sz3.class5`: refused with REF_SIZE (30_encoding.md R111). -/
def execRefuseSz3Class5 (_ch : BitVec 2) (_arg : Byte) (s : State) : Result :=
  .next (refuse .badSize s)

end Sys2Proof.Machine
end

