-- ==== Sys2Proof/Machine/TimeBaseOps.lean ====
section
/-! DEFINITION. TimeBaseOps.lean: the time base: its tick and its registers (40_time_base.md sections 1 and 2). -/

namespace Sys2Proof.Machine

/-- The time base after one tick: count down, reload from 0 (40_time_base.md R140, R141). -/
def TimeBase.ticked (tb : TimeBase) : TimeBase :=
  { tb with val := if tb.val = 0#32 then tb.load else tb.val - 1#32 }

/-- The time base after a write of TB_CTRL: EN going from 0 to 1 loads the counter (40_time_base.md R142). -/
def TimeBase.afterCtrl (tb : TimeBase) (data : Word) : TimeBase :=
  { tb with val := if tb.en = false ∧ data.getLsbD 0 = true then tb.load else tb.val,
            en := data.getLsbD 0, clksrc := data.getLsbD 1 }

/-- `ev.ttick`: enabled while EN = 1 (R141). -/
def execEvTtick (s : State) : Result :=
  whenEnabled s.tb.en (s.setTb s.tb.ticked).done

/-- `wr.tb.TB_CTRL`: set enable and clock source; bits 31:2 are ignored (R142). -/
def execWrTbCtrl (data : Word) (s : State) : Result :=
  .next (s.setTb (s.tb.afterCtrl data)).done

/-- `wr.tb.TB_LOAD`: set the reload value, bits above TBW dropped; the count is unchanged (R143). -/
def execWrTbLoad (data : Word) (s : State) : Result :=
  .next (s.setTb { s.tb with load := tbField s.cfg data }).done

/-- `wr.tb.TB_VAL`: TB_VAL is read-only: F_WRITE_RO (R144). -/
def execWrTbVal (_data : Word) (s : State) : Result :=
  .next (raiseFault .writeRo s)

/-- `wr.tb.TB_CAL`: store the calibration multiplier (R145). -/
def execWrTbCal (data : Word) (s : State) : Result :=
  .next (s.setTb { s.tb with cal := data }).done

/-- `wr.tb.TB_QUANT`: store the ticks per scheduler quantum (R146). -/
def execWrTbQuant (data : Word) (s : State) : Result :=
  .next (s.setTb { s.tb with quant := data }).done

/-- `wr.tb.reserved5-5`: a reserved register faults F_BADREG (R152). -/
def execWrTbReserved5 (_data : Word) (s : State) : Result :=
  .next (raiseFault .badReg s)

/-- `wr.tb.reserved6-7`: a reserved register faults F_BADREG (R152). -/
def execWrTbReserved6to7 (_reg : BitVec 4) (_data : Word) (s : State) : Result :=
  .next (raiseFault .badReg s)

/-- `wr.tb.reserved8-15`: a reserved register faults F_BADREG (R152). -/
def execWrTbReserved8to15 (_reg : BitVec 4) (_data : Word) (s : State) : Result :=
  .next (raiseFault .badReg s)

/-- `rd.tb.TB_CTRL`: returns TB_CTRL (R147). -/
def execRdTbCtrl (s : State) : Result :=
  .next (s.returns s.tb.ctrlWord)

/-- `rd.tb.TB_LOAD`: returns TB_LOAD (R148). -/
def execRdTbLoad (s : State) : Result :=
  .next (s.returns s.tb.load)

/-- `rd.tb.TB_VAL`: returns TB_VAL (R149). -/
def execRdTbVal (s : State) : Result :=
  .next (s.returns s.tb.val)

/-- `rd.tb.TB_CAL`: returns TB_CAL (R150). -/
def execRdTbCal (s : State) : Result :=
  .next (s.returns s.tb.cal)

/-- `rd.tb.TB_QUANT`: returns TB_QUANT (R151). -/
def execRdTbQuant (s : State) : Result :=
  .next (s.returns s.tb.quant)

/-- `rd.tb.reserved5-5`: a reserved register faults F_BADREG (R152). -/
def execRdTbReserved5 (s : State) : Result :=
  .next (raiseFault .badReg s)

/-- `rd.tb.reserved6-7`: a reserved register faults F_BADREG (R152). -/
def execRdTbReserved6to7 (_reg : BitVec 4) (s : State) : Result :=
  .next (raiseFault .badReg s)

/-- `rd.tb.reserved8-15`: a reserved register faults F_BADREG (R152). -/
def execRdTbReserved8to15 (_reg : BitVec 4) (s : State) : Result :=
  .next (raiseFault .badReg s)

end Sys2Proof.Machine
end

