-- ==== Sys2Proof/Machine/Dispatch.lean ====
section
/-! DEFINITION. Dispatch.lean: one arm per operation of spec/opcode_table.json. -/

namespace Sys2Proof.Machine

def exec (i : Instr) (s : State) : Host.Outcome State Fault Refusal :=
  match i with
  | .refuseClass6 ch sz arg => Sys2Proof.Machine.execRefuseClass6 ch sz arg s
  | .refuseClass7 ch sz arg => Sys2Proof.Machine.execRefuseClass7 ch sz arg s
  | .refuseCh3Class0 sz arg => Sys2Proof.Machine.execRefuseCh3Class0 sz arg s
  | .refuseCh3Class1 sz arg => Sys2Proof.Machine.execRefuseCh3Class1 sz arg s
  | .refuseCh3Class8 sz arg => Sys2Proof.Machine.execRefuseCh3Class8 sz arg s
  | .refuseCh3Class9 sz arg => Sys2Proof.Machine.execRefuseCh3Class9 sz arg s
  | .refuseCh3ClassA sz arg => Sys2Proof.Machine.execRefuseCh3ClassA sz arg s
  | .refuseCh3ClassB sz arg => Sys2Proof.Machine.execRefuseCh3ClassB sz arg s
  | .refuseCh3ClassC sz arg => Sys2Proof.Machine.execRefuseCh3ClassC sz arg s
  | .refuseCh3ClassD sz arg => Sys2Proof.Machine.execRefuseCh3ClassD sz arg s
  | .refuseCh3ClassF sz arg => Sys2Proof.Machine.execRefuseCh3ClassF sz arg s
  | .refuseSz3Class0 c arg => Sys2Proof.Machine.execRefuseSz3Class0 c arg s
  | .refuseSz3Class1 c arg => Sys2Proof.Machine.execRefuseSz3Class1 c arg s
  | .refuseSz3Class2 ch arg => Sys2Proof.Machine.execRefuseSz3Class2 ch arg s
  | .refuseSz3Class3 ch arg => Sys2Proof.Machine.execRefuseSz3Class3 ch arg s
  | .refuseSz3Class4 ch arg => Sys2Proof.Machine.execRefuseSz3Class4 ch arg s
  | .refuseSz3Class5 ch arg => Sys2Proof.Machine.execRefuseSz3Class5 ch arg s
  | .wrChSz0 c reg data => Sys2Proof.Machine.execWrChSz0 c reg data s
  | .wrChSz1 c reg data => Sys2Proof.Machine.execWrChSz1 c reg data s
  | .rdChSz0 c reg => Sys2Proof.Machine.execRdChSz0 c reg s
  | .rdChSz1 c reg => Sys2Proof.Machine.execRdChSz1 c reg s
  | .wrTbSz0 reg data => Sys2Proof.Machine.execWrTbSz0 reg data s
  | .wrTbSz1 reg data => Sys2Proof.Machine.execWrTbSz1 reg data s
  | .rdTbSz0 reg => Sys2Proof.Machine.execRdTbSz0 reg s
  | .rdTbSz1 reg => Sys2Proof.Machine.execRdTbSz1 reg s
  | .cmdInit c => Sys2Proof.Machine.execCmdInit c s
  | .cmdReset c => Sys2Proof.Machine.execCmdReset c s
  | .cmdPrst c => Sys2Proof.Machine.execCmdPrst c s
  | .cmdBad c data => Sys2Proof.Machine.execCmdBad c data s
  | .wrChBaud c data => Sys2Proof.Machine.execWrChBaud c data s
  | .wrChStat c data => Sys2Proof.Machine.execWrChStat c data s
  | .wrChLen c data => Sys2Proof.Machine.execWrChLen c data s
  | .wrChCnt c data => Sys2Proof.Machine.execWrChCnt c data s
  | .wrChTcnt c data => Sys2Proof.Machine.execWrChTcnt c data s
  | .wrChCap c data => Sys2Proof.Machine.execWrChCap c data s
  | .wrChBuf c data => Sys2Proof.Machine.execWrChBuf c data s
  | .wrChTper c data => Sys2Proof.Machine.execWrChTper c data s
  | .wrChReserved9 c data => Sys2Proof.Machine.execWrChReserved9 c data s
  | .wrChReserved10to11 c reg data => Sys2Proof.Machine.execWrChReserved10to11 c reg data s
  | .wrChReserved12to15 c reg data => Sys2Proof.Machine.execWrChReserved12to15 c reg data s
  | .rdChCmd c => Sys2Proof.Machine.execRdChCmd c s
  | .rdChStat c => Sys2Proof.Machine.execRdChStat c s
  | .rdChLen c => Sys2Proof.Machine.execRdChLen c s
  | .rdChCnt c => Sys2Proof.Machine.execRdChCnt c s
  | .rdChBaud c => Sys2Proof.Machine.execRdChBaud c s
  | .rdChTcnt c => Sys2Proof.Machine.execRdChTcnt c s
  | .rdChCap c => Sys2Proof.Machine.execRdChCap c s
  | .rdChBuf c => Sys2Proof.Machine.execRdChBuf c s
  | .rdChTper c => Sys2Proof.Machine.execRdChTper c s
  | .rdChReserved9 c => Sys2Proof.Machine.execRdChReserved9 c s
  | .rdChReserved10to11 c reg => Sys2Proof.Machine.execRdChReserved10to11 c reg s
  | .rdChReserved12to15 c reg => Sys2Proof.Machine.execRdChReserved12to15 c reg s
  | .wrTbCtrl data => Sys2Proof.Machine.execWrTbCtrl data s
  | .wrTbLoad data => Sys2Proof.Machine.execWrTbLoad data s
  | .wrTbVal data => Sys2Proof.Machine.execWrTbVal data s
  | .wrTbCal data => Sys2Proof.Machine.execWrTbCal data s
  | .wrTbQuant data => Sys2Proof.Machine.execWrTbQuant data s
  | .wrTbReserved5 data => Sys2Proof.Machine.execWrTbReserved5 data s
  | .wrTbReserved6to7 reg data => Sys2Proof.Machine.execWrTbReserved6to7 reg data s
  | .wrTbReserved8to15 reg data => Sys2Proof.Machine.execWrTbReserved8to15 reg data s
  | .rdTbCtrl => Sys2Proof.Machine.execRdTbCtrl s
  | .rdTbLoad => Sys2Proof.Machine.execRdTbLoad s
  | .rdTbVal => Sys2Proof.Machine.execRdTbVal s
  | .rdTbCal => Sys2Proof.Machine.execRdTbCal s
  | .rdTbQuant => Sys2Proof.Machine.execRdTbQuant s
  | .rdTbReserved5 => Sys2Proof.Machine.execRdTbReserved5 s
  | .rdTbReserved6to7 reg => Sys2Proof.Machine.execRdTbReserved6to7 reg s
  | .rdTbReserved8to15 reg => Sys2Proof.Machine.execRdTbReserved8to15 reg s
  | .ldB ch addr => Sys2Proof.Machine.execLdB ch addr s
  | .ldH ch addr => Sys2Proof.Machine.execLdH ch addr s
  | .ldW ch addr => Sys2Proof.Machine.execLdW ch addr s
  | .stB ch addr data => Sys2Proof.Machine.execStB ch addr data s
  | .stH ch addr data => Sys2Proof.Machine.execStH ch addr data s
  | .stW ch addr data => Sys2Proof.Machine.execStW ch addr data s
  | .evByte c b => Sys2Proof.Machine.execEvByte c b s
  | .evIdle c => Sys2Proof.Machine.execEvIdle c s
  | .evDxfer c => Sys2Proof.Machine.execEvDxfer c s
  | .evFtick c => Sys2Proof.Machine.execEvFtick c s
  | .evDidle c => Sys2Proof.Machine.execEvDidle c s
  | .evDexp c => Sys2Proof.Machine.execEvDexp c s
  | .evDerr c => Sys2Proof.Machine.execEvDerr c s
  | .evTtick => Sys2Proof.Machine.execEvTtick s

end Sys2Proof.Machine
end

