-- ==== Sys2Proof/Machine/Step.lean ====
section
/-! DEFINITION. Step.lean: one step of the block: the next scheduled operation is translated, decoded and
performed atomically (00_scope.md R9, 10_state.md R23; log 2). -/

namespace Sys2Proof.Machine

/-- One step (10_state.md R23): the oldest scheduled request leaves the schedule and is performed. -/
def step (s : State) : Host.Outcome State Fault Refusal :=
  match s.sched with
  | [] => .fault .scheduleEmpty
  | r :: rest =>
    match translateRequest s.cfg r with
    | .op o => exec (decode o) (s.withSched rest)
    | .fault code => .next (raiseFault code (s.withSched rest))
    | .refused why => .next (refuse why (s.withSched rest))

/-- `s` with the instruction whose bits are `w` scheduled as the very next operation (logs 2, 17). -/
def State.withFetchWord (s : State) (nbits w : Nat) : State :=
  s.withSched (.word (OpWord.ofTableWord nbits w) :: s.sched)

end Sys2Proof.Machine
end

