-- ==== Sys2Proof/Machine/Assembly.lean ====
section
/-! DEFINITION. Assembly.lean: the assembly syntax and its pseudo-operations (30_encoding.md R114, R115). No
operation of the block depends on it. -/

namespace Sys2Proof.Machine

/-- One line of assembly (30_encoding.md R114). A register is given by its index (R104). -/
inductive Asm where
  | wrCh (c : Chan) (reg : BitVec 4) (v : Word)
  | rdCh (c : Chan) (reg : BitVec 4)
  | wrTb (reg : BitVec 4) (v : Word)
  | rdTb (reg : BitVec 4)
  | ld (z : Size) (a : Word)
  | st (z : Size) (a v : Word)
  | byte (c : Chan) (b : Byte)
  | idle (c : Chan)
  | dxfer (c : Chan)
  | ftick (c : Chan)
  | didle (c : Chan)
  | dexp (c : Chan)
  | ttick
  | derr (c : Chan)
deriving DecidableEq, Repr, Inhabited

/-- `c(a)`: the channel whose buffer holds `a`; 0 where none does (log 19). -/
def chanOfAddr (cfg : Config) (a : Word) : BitVec 2 :=
  match findBuf cfg a 1 with
  | some c => c.toBits
  | none => 0#2

/-- The operation word of a line (30_encoding.md R114). -/
def assemble (cfg : Config) (l : Asm) : OpWord :=
  match l with
  | .wrCh c reg v => ⟨packWord 0x0#4 c.toBits 2#2 (regArg reg), v, 0#32⟩
  | .rdCh c reg => ⟨packWord 0x1#4 c.toBits 2#2 (regArg reg), 0#32, 0#32⟩
  | .wrTb reg v => ⟨packWord 0x2#4 0#2 2#2 (regArg reg), v, 0#32⟩
  | .rdTb reg => ⟨packWord 0x3#4 0#2 2#2 (regArg reg), 0#32, 0#32⟩
  | .ld z a => ⟨packWord 0x4#4 (chanOfAddr cfg a) z.toBits 0#8, a, 0#32⟩
  | .st z a v => ⟨packWord 0x5#4 (chanOfAddr cfg a) z.toBits 0#8, a, v⟩
  | .byte c b => ⟨packWord 0x8#4 c.toBits 0#2 b, 0#32, 0#32⟩
  | .idle c => ⟨packWord 0x9#4 c.toBits 0#2 0#8, 0#32, 0#32⟩
  | .dxfer c => ⟨packWord 0xA#4 c.toBits 0#2 0#8, 0#32, 0#32⟩
  | .ftick c => ⟨packWord 0xB#4 c.toBits 0#2 0#8, 0#32, 0#32⟩
  | .didle c => ⟨packWord 0xC#4 c.toBits 0#2 0#8, 0#32, 0#32⟩
  | .dexp c => ⟨packWord 0xD#4 c.toBits 0#2 0#8, 0#32, 0#32⟩
  | .ttick => ⟨packWord 0xE#4 0#2 0#2 0#8, 0#32, 0#32⟩
  | .derr c => ⟨packWord 0xF#4 c.toBits 0#2 0#8, 0#32, 0#32⟩

/-- The pseudo-operations (30_encoding.md R115); `is_ready` is `rdCh c 1` followed by `frameReadyBits`. -/
inductive Pseudo where
  | cmdInit (c : Chan)
  | cmdReset (c : Chan)
  | cmdPrst (c : Chan)
  | initChannel (c : Chan) (baud : Word)
  | isReady (c : Chan)
  | rx (c : Chan) (b : Byte)
  | burst (c : Chan) (bs : List Byte)
  | gap (c : Chan)
  | wait (c : Chan) (n : Nat)
  | tticks (n : Nat)
deriving DecidableEq, Repr, Inhabited

/-- The fixed sequence of lines a pseudo-operation stands for (30_encoding.md R115). -/
def expand (p : Pseudo) : List Asm :=
  match p with
  | .cmdInit c => [.wrCh c 0#4 1#32]
  | .cmdReset c => [.wrCh c 0#4 2#32]
  | .cmdPrst c => [.wrCh c 0#4 3#32]
  | .initChannel c baud => [.wrCh c 4#4 baud, .wrCh c 0#4 1#32]
  | .isReady c => [.rdCh c 1#4]
  | .rx c b => [.byte c b, .dxfer c]
  | .burst c bs => bs.flatMap (fun b => [.byte c b, .dxfer c])
  | .gap c => [.idle c, .didle c]
  | .wait c n => List.replicate n (.ftick c)
  | .tticks n => List.replicate n .ttick

end Sys2Proof.Machine
end

