-- ==== Sys2Proof/Safety.lean ====
section
/-! DEFINITION. Safety.lean: what a run is and when it succeeds, the invariant of the block, and the terms the
statements use. -/

namespace Sys2Proof.Machine

/-! ### Runs -/

/-- The operations `is` performed in order, stopping at the first stop. -/
def execAll (is : List Instr) (s : State) : Result :=
  match is with
  | [] => .next s
  | i :: rest =>
    match exec i s with
    | .next t => execAll rest t
    | .fault r => .fault r
    | .refused r => .refused r

/-- No fault recorded and nothing refused: the premise of every claim about a run (30_encoding.md R112). -/
def State.clean (s : State) : Bool := s.faults == FaultSet.empty && !s.refused

/-- Is the operation a step of an agent other than the host (10_state.md R22)? A refused word is no agent's. -/
def isEventOp (i : Instr) : Bool :=
  match i.agent with
  | none => false
  | some .host => false
  | some .timeBase => true
  | some (.line _) => true
  | some (.dma _) => true
  | some (.frameTimer _) => true
  | some (.detector _) => true

/-- Is the request a step of an agent other than the host? A refused word counts as the host's attempt (log 24). -/
def isEventRequest (r : Request) : Bool :=
  match r with
  | .word o => isEventOp (decode o)
  | .bus _ => false

/-- What the host is left holding after its operation ended in `u`: the value returned to it, if one was. It is not
told of a fault or a refusal: every operation that returned no value leaves it the same free word
(60_exceptions.md R300, R301; log 25). -/
def hostSees (seen : List Word) (u : State) : Word :=
  match u.report with
  | .value v => v
  | .idle => Config.unreturned seen
  | .done => Config.unreturned seen
  | .faulted _ => Config.unreturned seen
  | .refused _ => Config.unreturned seen

/-- A host program with its control flow (30_encoding.md R114): its next operation, from the word it was left holding
after each of its operations so far, oldest first; none once it has performed its last (log 24). -/
abbrev HostProgram := List Word → Option Request

/-- The state a run ends in: `s` has the schedule `rs`, which interleaves the operations the program asks for with
steps of the other agents, and which ends at the program's last operation. None where `rs` is no such schedule, among
them one that stops short of the last operation or goes on after it (70_reset_and_hazards.md R357). -/
def hostRun (prog : HostProgram) (seen : List Word) (rs : List Request) (s : State) : Option State :=
  match rs with
  | [] => none
  | r :: rest =>
    match step s with
    | .fault _ => none
    | .refused _ => none
    | .next u =>
      if isEventRequest r then hostRun prog seen rest u
      else if prog seen = some r then
        if prog (seen ++ [hostSees seen u]) = none then (if rest = [] then some u else none)
        else hostRun prog (seen ++ [hostSees seen u]) rest u
      else none

/-- A run of the program from power-on under a well-formed configuration ends in `t` (70_reset_and_hazards.md R357). -/
def RunEnds (prog : HostProgram) (cfg : Config) (rs : List Request) (t : State) : Prop :=
  ∃ s, State.launch cfg = some s ∧ hostRun prog [] rs (s.withSched rs) = some t

/-- The run ends in `t` and succeeds: at its end no fault is recorded and nothing refused (R357). -/
def RunSucceeds (prog : HostProgram) (cfg : Config) (rs : List Request) (t : State) : Prop :=
  RunEnds prog cfg rs t ∧ t.clean = true

/-- All that an observation may read of channel `c`'s buffer as frame content: indices 0..len
(70_reset_and_hazards.md R357). -/
def State.frameContent (s : State) (c : Chan) : List Byte :=
  (List.range ((s.chan c).len.toNat + 1)).map (fun k => s.memByte (s.cfg.bufLo c + k))

/-- No agent of the channel but the line has an enabled operation (70_reset_and_hazards.md R357). -/
def Channel.quiescent (ch : Channel) : Bool :=
  !ch.idlef && !ch.upif && !ch.ten && (ch.hold.isNone || !ch.den)

/-- Does the operation re-arm or un-initialise channel `c` when it runs on an initialised channel? INIT is not
among them: there it faults (44_host_interface.md R210-R212). -/
def rearms (c : Chan) (i : Instr) : Bool := i == .cmdReset c || i == .cmdPrst c

/-! ### What an operation leaves unchanged -/

/-- Every byte of memory reads as before. -/
def MemSame (s t : State) : Prop := ∀ a, t.memByte a = s.memByte a

/-- Every byte of memory but the one at `x` reads as before. -/
def MemSameBut (x : Nat) (s t : State) : Prop := ∀ a, a ≠ x → t.memByte a = s.memByte a

/-- The other channels are as before. -/
def OthersSame (c : Chan) (s t : State) : Prop :=
  ∀ d, d ≠ c → t.chan d = s.chan d ∧ t.draws.get d = s.draws.get d

/-- Every channel is as before. -/
def ChansSame (s t : State) : Prop := ∀ d, t.chan d = s.chan d ∧ t.draws.get d = s.draws.get d

/-- The configuration, the time base, the marks and the schedule are as before. -/
def RestSame (s t : State) : Prop :=
  t.cfg = s.cfg ∧ t.tb = s.tb ∧ t.faults = s.faults ∧ t.refused = s.refused ∧ t.sched = s.sched

/-- As `RestSame`, the time base apart. -/
def RestSameButTb (s t : State) : Prop :=
  t.cfg = s.cfg ∧ t.faults = s.faults ∧ t.refused = s.refused ∧ t.sched = s.sched

/-- All that happened is that channel `c` became `x`; memory is spoken of apart. -/
def ChanBecomes (c : Chan) (x : Channel) (s t : State) : Prop :=
  t.chan c = x ∧ t.draws.get c = s.draws.get c ∧ OthersSame c s t ∧ RestSame s t ∧ t.report = .done

/-- All that happened is that the time base became `x`. -/
def TbBecomes (x : TimeBase) (s t : State) : Prop :=
  t.tb = x ∧ ChansSame s t ∧ MemSame s t ∧ RestSameButTb s t ∧ t.report = .done

/-- All that happened is that the code joined `S.faults` (60_exceptions.md R301). -/
def OnlyFaults (code : FaultCode) (s t : State) : Prop :=
  (∀ d, t.faults.has d = (decide (d = code) || s.faults.has d)) ∧ t.report = .faulted code ∧
  ChansSame s t ∧ MemSame s t ∧ t.cfg = s.cfg ∧ t.tb = s.tb ∧ t.refused = s.refused ∧ t.sched = s.sched

/-- All that happened is that `S.refused` was set (30_encoding.md R112). -/
def OnlyRefuses (why : RefusalReason) (s t : State) : Prop :=
  t.refused = true ∧ t.report = .refused why ∧
  ChansSame s t ∧ MemSame s t ∧ t.cfg = s.cfg ∧ t.tb = s.tb ∧ t.faults = s.faults ∧ t.sched = s.sched

/-- All that happened is that the host was given `v` (20_memory.md R78). -/
def OnlyReturns (v : Word) (s t : State) : Prop :=
  t.report = .value v ∧ ChansSame s t ∧ MemSame s t ∧ RestSame s t

/-- The channel number in place in an operation word, `i << 10` (30_encoding.md R101). -/
def chField (c : Chan) : BitVec 16 := c.toBits.setWidth 16 <<< 10

/-- The word spells `i`, whatever its operands. -/
def spells (ow : BitVec 16) (i : Instr) : Prop := ∀ a b, decode ⟨ow, a, b⟩ = i

/-- The word with this first operand spells `i`, whatever the second. -/
def spellsWith (ow : BitVec 16) (operand : Word) (i : Instr) : Prop := ∀ b, decode ⟨ow, operand, b⟩ = i

/-- The operation has no next state: it is not enabled (10_state.md R23). -/
def noNext (i : Instr) (s : State) : Prop := ∀ t, exec i s ≠ .next t

/-! ### Weak fairness, for liveness claims only (10_state.md R23) -/

/-- The operation is enabled: it has a step in this state. -/
def enabledIn (i : Instr) (s : State) : Prop := exec i s ≠ .fault .notEnabled

/-- Is the operation one of an agent that R23 gives weak fairness: TB, DMA_i, FT_i or DET_i? -/
def Instr.isFair (i : Instr) : Bool :=
  match i.agent with
  | none => false
  | some .host => false
  | some (.line _) => false
  | some .timeBase => true
  | some (.dma _) => true
  | some (.frameTimer _) => true
  | some (.detector _) => true

/-- `op n` performed in state `st n` leads to state `st (n + 1)`: an infinite run. -/
def EndlessRun (op : Nat → Instr) (st : Nat → State) : Prop := ∀ n, exec (op n) (st n) = .next (st (n + 1))

/-- Weak fairness: an operation of TB, DMA_i, FT_i or DET_i that stays enabled is eventually performed. -/
def WeaklyFair (op : Nat → Instr) (st : Nat → State) : Prop :=
  ∀ i, Instr.isFair i = true → ∀ n, (∀ m, n ≤ m → enabledIn i (st m)) → ∃ m, n ≤ m ∧ op m = i

/-! ### The invariant -/

/-- What holds of a channel that is not initialised: every field but BAUD is at power-on
(10_state.md R25; 60_exceptions.md R306). -/
def Channel.uninitOk (ch : Channel) : Prop := ch = { Channel.powerOn with baud := ch.baud }

/-- What holds of an initialised channel (10_state.md R32, R38, R39; 42_frame_timer.md R181; 43_frame_detector.md
R193; 41_receive_dma.md R164). -/
def Channel.armedOk (cfg : Config) (cap : Half) (tper : BitVec 17) (ch : Channel) : Prop :=
  1 ≤ ch.cnt.toNat ∧ ch.cnt.toNat ≤ cap.toNat ∧
  ch.len.toNat ≤ cap.toNat ∧
  (ch.cflag = 0#2 ∨ ch.cflag = 1#2) ∧
  (ch.ten = true → ch.tcnt.toNat < tper.toNat) ∧ (ch.ten = false → ch.tcnt = 0#16) ∧
  (ch.cnt = cap ∧ ch.ftf = false → ch.len = 0#16 ∧ ch.ten = false ∧ ch.upif = false ∧ ch.cflag = 0#2) ∧
  (ch.ten = true ∨ ch.upif = true ∨ ch.cflag = 1#2 → ch.len ≠ 0#16) ∧
  (ch.den = false → ch.derr = true ∧ cfg.dmaErrDisables = true)

/-- What holds of channel `c`. -/
def State.chanOk (s : State) (c : Chan) : Prop :=
  ((s.chan c).inited = false → (s.chan c).uninitOk) ∧
  ((s.chan c).inited = true → (s.chan c).armedOk s.cfg (s.cap c) (s.tper c))

/-- Is the address a byte of some buffer (20_memory.md R71)? -/
def ownsByte (cfg : Config) (a : Nat) : Prop := ∃ c, cfg.bufLo c ≤ a ∧ a ≤ cfg.bufHi c

/-- The invariant of the block. -/
def BlockInv (s : State) : Prop :=
  (∀ c, s.chanOk c) ∧
  s.tb.load.toNat < 2 ^ s.cfg.tbw ∧ s.tb.val.toNat < 2 ^ s.cfg.tbw ∧
  s.mem.wf = true ∧ (∀ p ∈ s.mem, ownsByte s.cfg p.1)

/-! ### Terms of the laws -/

/-- DXFERs of channel `c` among the operations. -/
def dxfers (c : Chan) (is : List Instr) : Nat := is.countP (fun i => i == .evDxfer c)

/-- FTICKs of channel `c` among the operations. -/
def fticks (c : Chan) (is : List Instr) : Nat := is.countP (fun i => i == .evFtick c)

/-- The bytes landing one after the other: `ev.burst` (30_encoding.md R115). -/
def burst (c : Chan) (bs : List Byte) : List Instr := bs.flatMap (fun b => [.evByte c b, .evDxfer c])

/-- The channel right after ArmDma: initialised, count full, FTF clear (41_receive_dma.md R165). -/
def State.freshlyArmed (s : State) (c : Chan) : Prop :=
  (s.chan c).inited = true ∧ (s.chan c).cnt = s.cap c ∧ (s.chan c).ftf = false

/-- The elapsed-tick estimate between two reads `p` then `v` of TB_VAL, with period `m`
(40_time_base.md R154). -/
def est (m p v : Nat) : Nat := if v ≤ p then p - v else p + m - v

/-- A poller of TB_VAL with `gaps` ticks between consecutive reads: the estimate it accumulates and the state it
ends in (40_time_base.md R155); none where a tick has no step. -/
def pollDelay (gaps : List Nat) (s : State) : Option (Nat × State) :=
  match gaps with
  | [] => some (0, s)
  | t :: rest =>
    match execAll (List.replicate t .evTtick) s with
    | .next u =>
      match pollDelay rest u with
      | some (acc, w) => some (est (s.tb.load.toNat + 1) s.tb.val.toNat u.tb.val.toNat + acc, w)
      | none => none
    | .fault _ => none
    | .refused _ => none

end Sys2Proof.Machine
end

