-- ==== Sys2Proof/Certificates/Slice0/Obligations.lean ====
section
/-! DEFINITION. Obligations.lean: the statements about the block. `S.mem` is read through `State.memByte`; C is
`s.cap c`, B is `s.cfg.bufLo c`; the value a read returns stands in `report` (log 7). -/

open Sys2Proof Sys2Proof.Machine

/-! ### Encoding -/

/-- Decode inverts encode on every well-formed instruction (30_encoding.md R101, R113, R114). -/
def Obligations.DecodeInvertsEncode : Prop :=
  ∀ i : Instr, i.wellFormed = true → decode (encode i) = i

/-- Whatever the word and its operands, the decoded instruction is a well-formed one. -/
def Obligations.DecodedWordIsWellFormed : Prop :=
  ∀ o : OpWord, (decode o).wellFormed = true

/-- R107: the decoder answers the first row of the opcode table that matches, and the rows of priority 3 (the rows
after the 17 refused ones) never match the same word and operand. -/
def Obligations.FirstMatchingRowDecides : Prop :=
  (∀ o : OpWord, (opcodeTable.find? (fun r => r.hits o)).map (fun r => r.mnemonic) = some (decode o).mnemonic) ∧
  (∀ o : OpWord, ∀ r ∈ opcodeTable.drop 17, ∀ r' ∈ opcodeTable.drop 17,
    r.hits o = true → r'.hits o = true → r = r')

/-- R116, which the spec derives: the example encodings. -/
def Obligations.ExampleEncodingsHold : Prop :=
  (∀ cfg, assemble cfg (.wrCh .c1 0#4 2#32) = ⟨0x0600#16, 2#32, 0#32⟩ ∧ decode ⟨0x0600#16, 2#32, 0#32⟩ = .cmdReset .c1) ∧
  (∀ cfg, assemble cfg (.rdCh .c2 2#4) = ⟨0x1A02#16, 0#32, 0#32⟩ ∧ decode ⟨0x1A02#16, 0#32, 0#32⟩ = .rdChLen .c2) ∧
  (∀ cfg, assemble cfg (.rdTb 2#4) = ⟨0x3202#16, 0#32, 0#32⟩ ∧ decode ⟨0x3202#16, 0#32, 0#32⟩ = .rdTbVal) ∧
  (∀ cfg, assemble cfg (.byte .c0 0x41#8) = ⟨0x8041#16, 0#32, 0#32⟩ ∧
    decode ⟨0x8041#16, 0#32, 0#32⟩ = .evByte .c0 0x41#8) ∧
  (∀ cfg, assemble cfg (.dexp .c2) = ⟨0xD800#16, 0#32, 0#32⟩ ∧ decode ⟨0xD800#16, 0#32, 0#32⟩ = .evDexp .c2) ∧
  (∀ cfg : Config, findBuf cfg ((cfg.ch.get .c0).buf + 4#32) 1 = some .c0 →
    assemble cfg (.ld .word ((cfg.ch.get .c0).buf + 4#32)) = ⟨0x4200#16, (cfg.ch.get .c0).buf + 4#32, 0#32⟩) ∧
  (∀ a, decode ⟨0x4200#16, a, 0#32⟩ = .ldW 0#2 a) ∧
  (∀ s, ∃ t, exec (decode ⟨0x6000#16, 0#32, 0#32⟩) s = .next t ∧ OnlyRefuses .badClass s t) ∧
  (∀ s, ∃ t, exec (decode ⟨0x1C01#16, 0#32, 0#32⟩) s = .next t ∧ OnlyRefuses .badChannel s t) ∧
  (∀ s data, ∃ t, exec (decode ⟨0x0104#16, data, 0#32⟩) s = .next t ∧ OnlyFaults .badWidth s t)

/-- R109 (c): the ignored bits of a word never change what it does. -/
def Obligations.IgnoredBitsKeepTheMeaning : Prop :=
  ∀ (s : State) (a b : Word) (cls : BitVec 4) (ch ch' sz sz' : BitVec 2) (arg arg' : Byte) (hi hi' reg : BitVec 4),
    (cls < 4#4 →
      exec (decode ⟨packWord cls ch sz (hi ++ reg), a, b⟩) s = exec (decode ⟨packWord cls ch sz (hi' ++ reg), a, b⟩) s) ∧
    (cls = 4#4 ∨ cls = 5#4 ∨ 9#4 ≤ cls →
      exec (decode ⟨packWord cls ch sz arg, a, b⟩) s = exec (decode ⟨packWord cls ch sz arg', a, b⟩) s) ∧
    (cls = 2#4 ∨ cls = 3#4 ∨ cls = 4#4 ∨ cls = 5#4 ∨ cls = 0xE#4 →
      exec (decode ⟨packWord cls ch sz arg, a, b⟩) s = exec (decode ⟨packWord cls ch' sz arg, a, b⟩) s) ∧
    (8#4 ≤ cls →
      exec (decode ⟨packWord cls ch sz arg, a, b⟩) s = exec (decode ⟨packWord cls ch sz' arg, a, b⟩) s)

/-! ### The step -/

/-- A scheduled operation word is taken off the schedule, decoded and performed (10_state.md R23; that the order is
held as a schedule is the model's choice, log 2). -/
def Obligations.StepRunsTheDecodedWord : Prop :=
  (∀ s o rest, s.sched = .word o :: rest → step s = exec (decode o) (s.withSched rest)) ∧
  (∀ s nbits w, step (s.withFetchWord nbits w) = exec (decode (OpWord.ofTableWord nbits w)) s)

/-- R105: what a bus access becomes. That an illegal width is refused inside the window too is read from R309
(log 13). -/
def Obligations.BusAccessBecomesItsWord : Prop :=
  ∀ (s : State) (a : BusAccess) (rest : List Request), s.cfg.wf = true → s.sched = .bus a :: rest →
    let u := s.withSched rest
    let off := a.addr.toNat - s.cfg.winLo
    let blk := off / 64
    let legal := a.width = 1 ∨ a.width = 2 ∨ a.width = 4
    let inWin := s.cfg.winLo ≤ a.addr.toNat ∧ a.addr.toNat ≤ s.cfg.winHi
    let data := if a.dir = .write then a.data else 0#32
    (¬ legal → step s = .next (refuse .badSize u)) ∧
    (legal → inWin → a.width ≠ 4 ∨ off % 4 ≠ 0 → step s = .next (raiseFault .badWidth u)) ∧
    (a.width = 4 → inWin → off % 4 = 0 → blk < 3 →
      step s = exec (decode ⟨packWord (if a.dir = .write then 0#4 else 1#4) (BitVec.ofNat 2 blk) 2#2
        (BitVec.ofNat 8 (off / 4 % 16)), data, 0#32⟩) u) ∧
    (a.width = 4 → inWin → off % 4 = 0 → blk = 3 →
      step s = exec (decode ⟨packWord (if a.dir = .write then 2#4 else 3#4) 0#2 2#2
        (BitVec.ofNat 8 (off / 4 % 16)), data, 0#32⟩) u) ∧
    (legal → ¬ inWin → ∀ c, s.cfg.bufLo c ≤ a.addr.toNat → a.addr.toNat + a.width ≤ s.cfg.bufHi c + 1 →
      step s = exec (decode ⟨packWord (if a.dir = .write then 5#4 else 4#4) c.toBits (BitVec.ofNat 2 (a.width / 2)) 0#8,
        a.addr, data⟩) u) ∧
    (legal → ¬ inWin → (∀ c, ¬ (s.cfg.bufLo c ≤ a.addr.toNat ∧ a.addr.toNat + a.width ≤ s.cfg.bufHi c + 1)) →
      step s = .next (refuse .outside u))

/-- Where an event's rule says it is not enabled it has no step, and with nothing scheduled there is no step
(10_state.md R23, R357). That the model stops there by these names is its own choice (logs 3 and 4). -/
def Obligations.NoStepWhereNotEnabled : Prop :=
  ∀ (s : State) (c : Chan),
    (s.cfg.idlePolicy = .strict → (s.chan c).inited = false ∨ (s.chan c).idleSeen = false →
      exec (.evIdle c) s = .fault .notEnabled) ∧
    ((s.chan c).den = false ∨ (s.chan c).hold = none → exec (.evDxfer c) s = .fault .notEnabled) ∧
    ((s.chan c).ten = false → exec (.evFtick c) s = .fault .notEnabled) ∧
    ((s.chan c).idlef = false → exec (.evDidle c) s = .fault .notEnabled) ∧
    ((s.chan c).upif = false → exec (.evDexp c) s = .fault .notEnabled) ∧
    ((s.chan c).den = false → exec (.evDerr c) s = .fault .notEnabled) ∧
    (s.tb.en = false → exec .evTtick s = .fault .notEnabled) ∧
    (s.sched = [] → step s = .fault .scheduleEmpty)

/-! ### Power-on and the invariant -/

/-- R340: the state and the register views at power-on. -/
def Obligations.PowerOnIsAsStated : Prop :=
  (∀ c, State.reset.chan c =
    { inited := false, baud := 0#32, baudAct := 0#32, hold := none, orerr := false, idleSeen := false, idlef := false,
      den := false, cnt := 0#16, ftf := false, derr := false, ten := false, tcnt := 0#16, upif := false,
      len := 0#16, cflag := 0#2 }) ∧
  State.reset.tb = { en := false, clksrc := false, load := 0#32, val := 0#32, cal := 0#32, quant := 0#32 } ∧
  (∀ d, State.reset.faults.has d = false) ∧ State.reset.refused = false ∧
  (∀ a, State.reset.memByte a = Config.launchByte a) ∧
  (∀ c, ∀ i ∈ [Instr.rdChStat c, .rdChLen c, .rdChCnt c, .rdChTcnt c, .rdChBaud c,
      .rdTbCtrl, .rdTbLoad, .rdTbVal, .rdTbCal, .rdTbQuant],
    ∃ t, exec i State.reset = .next t ∧ t.report = .value 0#32) ∧
  (∀ c, ∃ t, exec (.rdChCap c) State.reset = .next t ∧ t.report = .value ((State.reset.cap c).setWidth 32)) ∧
  (∀ c, ∃ t, exec (.rdChBuf c) State.reset = .next t ∧ t.report = .value (State.reset.buf c)) ∧
  (∀ c, ∃ t, exec (.rdChTper c) State.reset = .next t ∧ t.report = .value ((State.reset.tper c).setWidth 32))

/-- Every well-formed configuration is launched in a state that meets the model's invariant, the reset state's own
(the model's choice, log 1) among them; an ill-formed one is not launched. -/
def Obligations.InvariantHoldsAtPowerOn : Prop :=
  BlockInv State.reset ∧ State.reset.cfg.wf = true ∧
  ∀ cfg : Config, (cfg.wf = true → ∃ s, State.launch cfg = some s ∧ BlockInv s ∧ s.cfg = cfg) ∧
    (cfg.wf = false → State.launch cfg = none)

/-- Every step of a block with a well-formed configuration keeps the invariant. The invariant is the model's own, put
together from what R32, R38, R39, R181, R193 and R306 say of a run. -/
def Obligations.EveryStepKeepsTheInvariant : Prop :=
  ∀ s t, s.cfg.wf = true → BlockInv s → step s = .next t → BlockInv t

/-- R24: no operation changes the configuration, which the model holds in its state (log 1); and none touches the
schedule, which is the model's own (log 2). -/
def Obligations.ConfigurationNeverChanges : Prop :=
  (∀ i s t, exec i s = .next t → t.cfg = s.cfg ∧ t.sched = s.sched) ∧
  (∀ s t, step s = .next t → t.cfg = s.cfg ∧ t.sched = s.sched.tail)

/-! ### Faults and refusals -/

/-- Faults are never removed, and the refused mark is never cleared (10_state.md R44, 30_encoding.md R112). -/
def Obligations.FaultsAndRefusalAreSticky : Prop :=
  ∀ s t, step s = .next t →
    (∀ d, s.faults.has d = true → t.faults.has d = true) ∧ (s.refused = true → t.refused = true)

/-- An operation that faults adds its one code and does nothing else; one that is refused sets the mark and does
nothing else; one that does neither leaves both alone (60_exceptions.md R301, R303, R309). -/
def Obligations.FaultOrRefusalHasNoOtherEffect : Prop :=
  ∀ i s t, exec i s = .next t →
    (∀ code, t.report = .faulted code → OnlyFaults code s t) ∧
    (∀ why, t.report = .refused why → OnlyRefuses why s t) ∧
    ((∀ code, t.report ≠ .faulted code) → t.faults = s.faults) ∧
    ((∀ why, t.report ≠ .refused why) → t.refused = s.refused)

/-- R302: no event operation of classes 8-F ever faults; nor is one refused. -/
def Obligations.EventsNeverFault : Prop :=
  ∀ i s t, i.agent ≠ some .host → i.agent ≠ none → exec i s = .next t →
    t.faults = s.faults ∧ t.refused = s.refused ∧ t.report = .done

/-- R78: a read that returns a value changes nothing. -/
def Obligations.ReadsHaveNoSideEffect : Prop :=
  ∀ i s t v, exec i s = .next t → t.report = .value v → OnlyReturns v s t ∧ exec i t = .next t

/-- R79, R76: no host operation writes a byte of memory, and only DXFER and DEXP write any. -/
def Obligations.OnlyDmaAndExpiryWriteMemory : Prop :=
  ∀ i s t, exec i s = .next t → (∀ c, i ≠ .evDxfer c ∧ i ≠ .evDexp c) → MemSame s t

/-! ### Channels are independent -/

/-- R46: an operation of one channel leaves the other channels, the time base and every byte outside its own buffer
alone. -/
def Obligations.ChannelOperationStaysInItsChannel : Prop :=
  ∀ i s t c, s.cfg.wf = true → BlockInv s → i.chan? = some c → exec i s = .next t →
    OthersSame c s t ∧ t.tb = s.tb ∧ t.cfg = s.cfg ∧ t.sched = s.sched ∧
    (∀ a, a < s.cfg.bufLo c ∨ s.cfg.bufHi c < a → t.memByte a = s.memByte a)

/-- R46: what an operation of one channel does to that channel, its buffer and its report depends on that channel
and the configuration alone. -/
def Obligations.ChannelOperationReadsOnlyItsChannel : Prop :=
  ∀ i s s' t c, i.chan? = some c → s'.cfg = s.cfg → s'.chan c = s.chan c → s'.draws.get c = s.draws.get c →
    (∀ a, s.cfg.bufLo c ≤ a → a ≤ s.cfg.bufHi c → s'.memByte a = s.memByte a) → exec i s = .next t →
    ∃ t', exec i s' = .next t' ∧ t'.chan c = t.chan c ∧ t'.draws.get c = t.draws.get c ∧ t'.report = t.report ∧
      (∀ a, s.cfg.bufLo c ≤ a → a ≤ s.cfg.bufHi c → t'.memByte a = t.memByte a)

/-- R47 (c), which the spec derives: CFLAG goes from 0 to 1 only by DEXP, and from 1 to 0 only by RESET, INIT or PRST;
nothing ever writes 2 or 3 (R39). -/
def Obligations.CflagMovesOnlyByExpiryAndCommands : Prop :=
  ∀ i s t c, exec i s = .next t → (t.chan c).cflag ≠ (s.chan c).cflag →
    ((t.chan c).cflag = 1#2 ∧ i = .evDexp c) ∨
    ((t.chan c).cflag = 0#2 ∧ (i = .cmdReset c ∨ i = .cmdInit c ∨ i = .cmdPrst c))

/-! ### Refused words and faulting accesses -/

/-- R111, R303: each of the 17 refused spellings sets the mark, names its reason, and does nothing else. That the run
goes on is log 6. -/
def Obligations.RefusedWordsSetTheMark : Prop :=
  ∀ (s : State) (c : Chan) (ch sz : BitVec 2) (arg : Byte),
    (∀ i ∈ [Instr.refuseClass6 ch sz arg, .refuseClass7 ch sz arg],
      ∃ t, exec i s = .next t ∧ OnlyRefuses .badClass s t) ∧
    (∀ i ∈ [Instr.refuseCh3Class0 sz arg, .refuseCh3Class1 sz arg, .refuseCh3Class8 sz arg, .refuseCh3Class9 sz arg,
        .refuseCh3ClassA sz arg, .refuseCh3ClassB sz arg, .refuseCh3ClassC sz arg, .refuseCh3ClassD sz arg,
        .refuseCh3ClassF sz arg],
      ∃ t, exec i s = .next t ∧ OnlyRefuses .badChannel s t) ∧
    (∀ i ∈ [Instr.refuseSz3Class0 c arg, .refuseSz3Class1 c arg, .refuseSz3Class2 ch arg, .refuseSz3Class3 ch arg,
        .refuseSz3Class4 ch arg, .refuseSz3Class5 ch arg],
      ∃ t, exec i s = .next t ∧ OnlyRefuses .badSize s t)

/-- R226: a register access of 1 or 2 bytes faults F_BADWIDTH, whatever the register, and so does a bus access to the
window that is not an aligned 32-bit access. -/
def Obligations.NarrowRegisterAccessFaults : Prop :=
  (∀ (s : State) (c : Chan) (reg : BitVec 4) (data : Word),
    ∀ i ∈ [Instr.wrChSz0 c reg data, .wrChSz1 c reg data, .rdChSz0 c reg, .rdChSz1 c reg,
        .wrTbSz0 reg data, .wrTbSz1 reg data, .rdTbSz0 reg, .rdTbSz1 reg],
      ∃ t, exec i s = .next t ∧ OnlyFaults .badWidth s t) ∧
  (∀ (s : State) (cls : BitVec 4) (ch sz : BitVec 2) (arg : Byte) (a b : Word),
    cls < 4#4 → sz < 2#2 → (cls < 2#4 → ch ≠ 3#2) →
      ∃ t, exec (decode ⟨packWord cls ch sz arg, a, b⟩) s = .next t ∧ OnlyFaults .badWidth s t) ∧
  (∀ (s : State) (a : BusAccess) (rest : List Request), s.cfg.wf = true → s.sched = .bus a :: rest →
    s.cfg.winLo ≤ a.addr.toNat → a.addr.toNat ≤ s.cfg.winHi →
    a.width = 1 ∨ a.width = 2 ∨ a.width = 4 ∧ a.addr.toNat % 4 ≠ 0 →
      ∃ t, step s = .next t ∧ OnlyFaults .badWidth (s.withSched rest) t)

/-- R213, R215, R217, R144: a bad command, a write to a read-only register and a read of CMD fault. -/
def Obligations.WrongWayRegisterAccessFaults : Prop :=
  ∀ (s : State) (c : Chan) (data : Word),
    (data ≠ 1#32 → data ≠ 2#32 → data ≠ 3#32 →
      spellsWith (0x0200#16 ||| chField c) data (.cmdBad c data) ∧
      ∃ t, exec (.cmdBad c data) s = .next t ∧ OnlyFaults .badCmd s t) ∧
    (spellsWith (0x0201#16 ||| chField c) data (.wrChStat c data) ∧
      spellsWith (0x0202#16 ||| chField c) data (.wrChLen c data) ∧
      spellsWith (0x0203#16 ||| chField c) data (.wrChCnt c data) ∧
      spellsWith (0x0205#16 ||| chField c) data (.wrChTcnt c data) ∧
      spellsWith (0x0206#16 ||| chField c) data (.wrChCap c data) ∧
      spellsWith (0x0207#16 ||| chField c) data (.wrChBuf c data) ∧
      spellsWith (0x0208#16 ||| chField c) data (.wrChTper c data) ∧
      spellsWith 0x2202#16 data (.wrTbVal data) ∧ spells (0x1200#16 ||| chField c) (.rdChCmd c)) ∧
    (∀ i ∈ [Instr.wrChStat c data, .wrChLen c data, .wrChCnt c data, .wrChTcnt c data, .wrChCap c data,
        .wrChBuf c data, .wrChTper c data, .wrTbVal data],
      ∃ t, exec i s = .next t ∧ OnlyFaults .writeRo s t) ∧
    (∃ t, exec (.rdChCmd c) s = .next t ∧ OnlyFaults .readWo s t)

/-- R216, R152: a reserved register faults F_BADREG, as every word that names one does. -/
def Obligations.ReservedRegisterFaults : Prop :=
  (∀ (s : State) (c : Chan) (reg : BitVec 4) (a b : Word),
    (9#4 ≤ reg → ∀ ow ∈ [0x0200#16 ||| chField c ||| reg.setWidth 16, 0x1200#16 ||| chField c ||| reg.setWidth 16],
      ∃ t, exec (decode ⟨ow, a, b⟩) s = .next t ∧ OnlyFaults .badReg s t) ∧
    (5#4 ≤ reg → ∀ ow ∈ [0x2200#16 ||| reg.setWidth 16, 0x3200#16 ||| reg.setWidth 16],
      ∃ t, exec (decode ⟨ow, a, b⟩) s = .next t ∧ OnlyFaults .badReg s t)) ∧
  ∀ (s : State) (c : Chan) (reg : BitVec 4) (data : Word),
    ∀ i ∈ [Instr.wrChReserved9 c data, .wrChReserved10to11 c reg data, .wrChReserved12to15 c reg data,
        .rdChReserved9 c, .rdChReserved10to11 c reg, .rdChReserved12to15 c reg,
        .wrTbReserved5 data, .wrTbReserved6to7 reg data, .wrTbReserved8to15 reg data,
        .rdTbReserved5, .rdTbReserved6to7 reg, .rdTbReserved8to15 reg],
      ∃ t, exec i s = .next t ∧ OnlyFaults .badReg s t

/-! ### Commands -/

/-- R210: INIT arms a channel that is not initialised, and faults F_INIT_ARMED on one that is. -/
def Obligations.InitArmsTheChannel : Prop :=
  ∀ (s : State) (c : Chan),
    spellsWith (0x0200#16 ||| chField c) 1#32 (.cmdInit c) ∧
    (s.cfg.wf = true → busToWord s.cfg ⟨.write, s.cfg.blkBase + 0x40#32 * c.toBits.setWidth 32, 4, 1#32⟩ =
      .op ⟨0x0200#16 ||| chField c, 1#32, 0#32⟩) ∧
    ((s.chan c).inited = false → ∃ t, exec (.cmdInit c) s = .next t ∧
      ChanBecomes c
        { inited := true, baud := (s.chan c).baud, baudAct := (s.chan c).baud, hold := none, orerr := false,
          idleSeen := false, idlef := false, den := true, cnt := s.cap c, ftf := false, derr := false,
          ten := false, tcnt := 0#16, upif := false, len := 0#16, cflag := 0#2 } s t ∧
      MemSame s t ∧ (t.chan c).frameState = .idle ∧ (t.chan c).statWord = 0x420#32) ∧
    ((s.chan c).inited = true → ∃ t, exec (.cmdInit c) s = .next t ∧ OnlyFaults .initArmed s t)

/-- R211: RESET re-arms an initialised channel and keeps `hold`, `idle_seen`, `baud`, `baud_act` and memory; it faults
F_NOT_INIT on one that is not initialised. -/
def Obligations.ResetRearmsTheChannel : Prop :=
  ∀ (s : State) (c : Chan),
    spellsWith (0x0200#16 ||| chField c) 2#32 (.cmdReset c) ∧
    ((s.chan c).inited = true → ∃ t, exec (.cmdReset c) s = .next t ∧
      ChanBecomes c
        { inited := true, baud := (s.chan c).baud, baudAct := (s.chan c).baudAct, hold := (s.chan c).hold,
          orerr := false, idleSeen := (s.chan c).idleSeen, idlef := false, den := true, cnt := s.cap c, ftf := false,
          derr := false, ten := false, tcnt := 0#16, upif := false, len := 0#16, cflag := 0#2 } s t ∧
      MemSame s t ∧ (t.chan c).frameState = .idle) ∧
    ((s.chan c).inited = false → ∃ t, exec (.cmdReset c) s = .next t ∧ OnlyFaults .notInit s t)

/-- R212: PRST returns a channel to its power-on value from any state; buffer memory is kept. -/
def Obligations.PrstReturnsTheChannelToPowerOn : Prop :=
  ∀ (s : State) (c : Chan), spellsWith (0x0200#16 ||| chField c) 3#32 (.cmdPrst c) ∧
    ∃ t, exec (.cmdPrst c) s = .next t ∧
    ChanBecomes c (State.reset.chan c) s t ∧ MemSame s t ∧ (t.chan c).frameState = .uninit

/-- R232, which the spec derives: two RESETs with no step between leave the same state as one, with length 0, CFLAG
idle and the DMA re-armed at full capacity. -/
def Obligations.ResetIsIdempotent : Prop :=
  ∀ (s : State) (c : Chan), (s.chan c).inited = true →
    ∃ t, exec (.cmdReset c) s = .next t ∧ exec (.cmdReset c) t = .next t ∧
      (t.chan c).len = 0#16 ∧ (t.chan c).cflag = 0#2 ∧ (t.chan c).den = true ∧ (t.chan c).cnt = s.cap c

/-- R231, which the spec derives: a full peripheral reset followed by `init.channel` leaves the channel in one state
whatever it was before; buffer memory is unchanged. -/
def Obligations.PrstThenInitForgetsThePast : Prop :=
  ∀ (s : State) (c : Chan) (baud : Word),
    (expand (.cmdPrst c) ++ expand (.initChannel c baud)).map (fun l => decode (assemble s.cfg l)) =
      [.cmdPrst c, .wrChBaud c baud, .cmdInit c] ∧
    ∃ t, execAll [.cmdPrst c, .wrChBaud c baud, .cmdInit c] s = .next t ∧
      ChanBecomes c
        { inited := true, baud := baud, baudAct := baud, hold := none, orerr := false, idleSeen := false,
          idlef := false, den := true, cnt := s.cap c, ftf := false, derr := false, ten := false, tcnt := 0#16,
          upif := false, len := 0#16, cflag := 0#2 } s t ∧
      MemSame s t

/-! ### Channel registers -/

/-- R214: a write of BAUD stores all 32 bits in every state and changes nothing else, so reception does not see it. -/
def Obligations.BaudWriteStoresTheValue : Prop :=
  ∀ (s : State) (c : Chan) (data : Word), spellsWith (0x0204#16 ||| chField c) data (.wrChBaud c data) ∧
    ∃ t, exec (.wrChBaud c data) s = .next t ∧
    ChanBecomes c { s.chan c with baud := data } s t ∧ MemSame s t

/-- R49, R218: STAT shows each flag at its bit, and its reserved bits read 0. -/
def Obligations.StatShowsEveryFlag : Prop :=
  ∀ (s : State) (c : Chan), spells (0x1201#16 ||| chField c) (.rdChStat c) ∧
    ∃ t v, exec (.rdChStat c) s = .next t ∧ OnlyReturns v s t ∧
    v.extractLsb' 0 2 = (s.chan c).cflag ∧ v.getLsbD 2 = (s.chan c).ten ∧ v.getLsbD 3 = (s.chan c).upif ∧
    v.getLsbD 4 = (s.chan c).idlef ∧ v.getLsbD 5 = (s.chan c).den ∧ v.getLsbD 6 = (s.chan c).ftf ∧
    v.getLsbD 7 = (s.chan c).derr ∧ v.getLsbD 8 = decide ((s.chan c).hold ≠ none) ∧
    v.getLsbD 9 = (s.chan c).orerr ∧ v.getLsbD 10 = (s.chan c).inited ∧
    (∀ k, 11 ≤ k → v.getLsbD k = false)

/-- R219-R225: the other readable channel registers return their value, zero-extended, and change nothing. -/
def Obligations.ChannelRegistersReadBack : Prop :=
  ∀ (s : State) (c : Chan),
    (spells (0x1202#16 ||| chField c) (.rdChLen c) ∧ spells (0x1203#16 ||| chField c) (.rdChCnt c) ∧
      spells (0x1204#16 ||| chField c) (.rdChBaud c) ∧ spells (0x1205#16 ||| chField c) (.rdChTcnt c) ∧
      spells (0x1206#16 ||| chField c) (.rdChCap c) ∧ spells (0x1207#16 ||| chField c) (.rdChBuf c) ∧
      spells (0x1208#16 ||| chField c) (.rdChTper c)) ∧
    (∃ t v, exec (.rdChLen c) s = .next t ∧ OnlyReturns v s t ∧ v.toNat = (s.chan c).len.toNat) ∧
    (∃ t v, exec (.rdChCnt c) s = .next t ∧ OnlyReturns v s t ∧ v.toNat = (s.chan c).cnt.toNat) ∧
    (∃ t, exec (.rdChBaud c) s = .next t ∧ OnlyReturns (s.chan c).baud s t) ∧
    (∃ t v, exec (.rdChTcnt c) s = .next t ∧ OnlyReturns v s t ∧ v.toNat = (s.chan c).tcnt.toNat) ∧
    (∃ t v, exec (.rdChCap c) s = .next t ∧ OnlyReturns v s t ∧ v.toNat = (s.cfg.ch.get c).cap.toNat) ∧
    (∃ t, exec (.rdChBuf c) s = .next t ∧ OnlyReturns (s.cfg.ch.get c).buf s t) ∧
    (∃ t v, exec (.rdChTper c) s = .next t ∧ OnlyReturns v s t ∧ v.toNat = (s.cfg.ch.get c).tper.toNat)

/-! ### Time base -/

/-- R141: a tick is enabled exactly while EN is 1; it counts down, and reloads from 0. -/
def Obligations.TickCountsDownAndReloads : Prop :=
  (∀ low : BitVec 12, spells (0xE#4 ++ low) .evTtick) ∧
  ∀ s : State, (s.tb.en = false → noNext .evTtick s) ∧
    (s.tb.en = true → ∃ t, exec .evTtick s = .next t ∧
      TbBecomes { s.tb with val := t.tb.val } s t ∧
      (s.tb.val = 0#32 → t.tb.val = s.tb.load) ∧
      (s.tb.val ≠ 0#32 → t.tb.val.toNat + 1 = s.tb.val.toNat))

/-- R142: TB_CTRL takes EN from bit 0 and CLKSRC from bit 1, and loads the counter exactly when EN goes from 0 to 1. -/
def Obligations.TimeBaseControlWrite : Prop :=
  ∀ (s : State) (data : Word), spellsWith 0x2200#16 data (.wrTbCtrl data) ∧ ∃ t, exec (.wrTbCtrl data) s = .next t ∧
    TbBecomes { s.tb with en := data.getLsbD 0, clksrc := data.getLsbD 1, val := t.tb.val } s t ∧
    (s.tb.en = false ∧ data.getLsbD 0 = true → t.tb.val = s.tb.load) ∧
    (¬ (s.tb.en = false ∧ data.getLsbD 0 = true) → t.tb.val = s.tb.val)

/-- R143, R145, R146: TB_LOAD stores DATA without its bits above TBW; TB_CAL and TB_QUANT store all of it. -/
def Obligations.TimeBaseStorageWrites : Prop :=
  ∀ (s : State) (data : Word),
    (spellsWith 0x2201#16 data (.wrTbLoad data) ∧ spellsWith 0x2203#16 data (.wrTbCal data) ∧
      spellsWith 0x2204#16 data (.wrTbQuant data)) ∧
    (∃ t, exec (.wrTbLoad data) s = .next t ∧ TbBecomes { s.tb with load := t.tb.load } s t ∧
      t.tb.load.toNat = data.toNat % 2 ^ s.cfg.tbw) ∧
    (∃ t, exec (.wrTbCal data) s = .next t ∧ TbBecomes { s.tb with cal := data } s t) ∧
    (∃ t, exec (.wrTbQuant data) s = .next t ∧ TbBecomes { s.tb with quant := data } s t)

/-- R147-R151: the time-base registers read back. -/
def Obligations.TimeBaseRegistersReadBack : Prop :=
  (spells 0x3200#16 .rdTbCtrl ∧ spells 0x3201#16 .rdTbLoad ∧ spells 0x3202#16 .rdTbVal ∧ spells 0x3203#16 .rdTbCal ∧
    spells 0x3204#16 .rdTbQuant) ∧
  ∀ s : State,
    (∃ t v, exec .rdTbCtrl s = .next t ∧ OnlyReturns v s t ∧
      v.toNat = (if s.tb.en then 1 else 0) + (if s.tb.clksrc then 2 else 0)) ∧
    (∃ t, exec .rdTbLoad s = .next t ∧ OnlyReturns s.tb.load s t) ∧
    (∃ t, exec .rdTbVal s = .next t ∧ OnlyReturns s.tb.val s t) ∧
    (∃ t, exec .rdTbCal s = .next t ∧ OnlyReturns s.tb.cal s t) ∧
    (∃ t, exec .rdTbQuant s = .next t ∧ OnlyReturns s.tb.quant s t)

/-- R154, which the spec derives: with the load held, `n` ticks are estimated correctly modulo the period, never over,
and exactly when fewer than one period passed. -/
def Obligations.ElapsedTickEstimate : Prop :=
  ∀ (s : State) (n : Nat), s.tb.en = true → s.tb.val.toNat ≤ s.tb.load.toNat →
    ∃ t, execAll (List.replicate n .evTtick) s = .next t ∧
      est (s.tb.load.toNat + 1) s.tb.val.toNat t.tb.val.toNat % (s.tb.load.toNat + 1) = n % (s.tb.load.toNat + 1) ∧
      est (s.tb.load.toNat + 1) s.tb.val.toNat t.tb.val.toNat ≤ n ∧
      (n < s.tb.load.toNat + 1 → est (s.tb.load.toNat + 1) s.tb.val.toNat t.tb.val.toNat = n)

/-- P5 (R155, which the spec derives): whatever the gaps between its reads, a polling delay never counts more ticks
than happened; it counts them all when every gap is shorter than one period. -/
def Obligations.PollingDelayNeverReturnsEarly : Prop :=
  ∀ (s : State) (gaps : List Nat), s.tb.en = true → s.tb.val.toNat ≤ s.tb.load.toNat →
    ∃ acc t, pollDelay gaps s = some (acc, t) ∧ execAll (List.replicate gaps.sum .evTtick) s = .next t ∧
      acc ≤ gaps.sum ∧ ((∀ g ∈ gaps, g < s.tb.load.toNat + 1) → acc = gaps.sum)

/-! ### Buffer memory -/

/-- R227, R75: a buffer read inside one buffer and aligned returns its bytes little-endian; misaligned it faults
F_BUF_ALIGN; not inside one buffer it is refused. -/
def Obligations.BufferReadIsLittleEndian : Prop :=
  ∀ (s : State) (ch : BitVec 2) (a : Word) (i : Instr) (n : Nat),
    (i = .ldB ch a ∧ n = 1) ∨ (i = .ldH ch a ∧ n = 2) ∨ (i = .ldW ch a ∧ n = 4) →
    spellsWith (0x4000#16 ||| ch.setWidth 16 <<< 10 ||| BitVec.ofNat 16 (n / 2) <<< 8) a i ∧
    (∀ c, s.cfg.bufLo c ≤ a.toNat → a.toNat + n ≤ s.cfg.bufHi c + 1 →
      (a.toNat % n = 0 → ∃ t v, exec i s = .next t ∧ OnlyReturns v s t ∧
        v.toNat = ∑ k ∈ Finset.range n, (s.memByte (a.toNat + k)).toNat * 2 ^ (8 * k)) ∧
      (a.toNat % n ≠ 0 → ∃ t, exec i s = .next t ∧ OnlyFaults .bufAlign s t)) ∧
    ((∀ c, ¬ (s.cfg.bufLo c ≤ a.toNat ∧ a.toNat + n ≤ s.cfg.bufHi c + 1)) →
      ∃ t, exec i s = .next t ∧ OnlyRefuses .outside s t)

/-- R228: a buffer write inside one buffer faults F_BUF_WRITE, aligned or not, and memory is unchanged; not inside one
buffer it is refused. -/
def Obligations.BufferWriteFaults : Prop :=
  ∀ (s : State) (ch : BitVec 2) (a data : Word) (i : Instr) (n : Nat),
    (i = .stB ch a data ∧ n = 1) ∨ (i = .stH ch a data ∧ n = 2) ∨ (i = .stW ch a data ∧ n = 4) →
    decode ⟨0x5000#16 ||| ch.setWidth 16 <<< 10 ||| BitVec.ofNat 16 (n / 2) <<< 8, a, data⟩ = i ∧
    (∀ c, s.cfg.bufLo c ≤ a.toNat → a.toNat + n ≤ s.cfg.bufHi c + 1 →
      ∃ t, exec i s = .next t ∧ OnlyFaults .bufWrite s t) ∧
    ((∀ c, ¬ (s.cfg.bufLo c ≤ a.toNat ∧ a.toNat + n ≤ s.cfg.bufHi c + 1)) →
      ∃ t, exec i s = .next t ∧ OnlyRefuses .outside s t)

/-! ### Line and DMA -/

/-- R161: a byte is dropped before INIT, held when nothing is held, and otherwise overruns: ORERR is set and the old or
the new byte survives. -/
def Obligations.ArrivingByte : Prop :=
  ∀ (s : State) (c : Chan) (b : Byte),
    spells (0x8000#16 ||| chField c ||| b.setWidth 16) (.evByte c b) ∧
    ((s.chan c).inited = false → ∃ t, exec (.evByte c b) s = .next t ∧ ChanBecomes c (s.chan c) s t ∧ MemSame s t) ∧
    ((s.chan c).inited = true → (s.chan c).hold = none → ∃ t, exec (.evByte c b) s = .next t ∧
      ChanBecomes c { s.chan c with hold := some b, idleSeen := true } s t ∧ MemSame s t) ∧
    (∀ old, (s.chan c).inited = true → (s.chan c).hold = some old → ∃ t x, exec (.evByte c b) s = .next t ∧
      (x = old ∨ x = b) ∧ t.chan c = { s.chan c with hold := some x, orerr := true, idleSeen := true } ∧
      OthersSame c s t ∧ RestSame s t ∧ MemSame s t ∧ t.report = .done)

/-- R162: an idle condition, exactly where IDLE_POLICY enables it, sets IDLEF and clears `idle_seen`; before INIT it
changes nothing. -/
def Obligations.LineIdle : Prop :=
  ∀ (s : State) (c : Chan), spells (0x9000#16 ||| chField c) (.evIdle c) ∧
    (¬ (s.cfg.idlePolicy = .loose ∨ ((s.chan c).inited = true ∧ (s.chan c).idleSeen = true)) → noNext (.evIdle c) s) ∧
    (s.cfg.idlePolicy = .loose ∨ ((s.chan c).inited = true ∧ (s.chan c).idleSeen = true) →
      ∃ t, exec (.evIdle c) s = .next t ∧ MemSame s t ∧
        ((s.chan c).inited = false → ChanBecomes c (s.chan c) s t) ∧
        ((s.chan c).inited = true → ChanBecomes c { s.chan c with idlef := true, idleSeen := false } s t))

/-- R163: exactly while DEN is 1 and a byte is held, the byte goes to index `C - cnt`; at the end of a pass the count
reloads and FTF is set. The stored byte's address is the model's own `dmaAddr`. -/
def Obligations.DmaTransfer : Prop :=
  ∀ (s : State) (c : Chan), spells (0xA000#16 ||| chField c) (.evDxfer c) ∧
    ((s.chan c).den = false ∨ (s.chan c).hold = none → noNext (.evDxfer c) s) ∧
    ∀ b : Byte, s.cfg.wf = true → (s.chan c).den = true → (s.chan c).hold = some b →
      1 ≤ (s.chan c).cnt.toNat → (s.chan c).cnt.toNat ≤ (s.cap c).toNat →
      (s.dmaAddr c).toNat = s.cfg.bufLo c + ((s.cap c).toNat - (s.chan c).cnt.toNat) ∧
      ∃ t, exec (.evDxfer c) s = .next t ∧
        t.memByte (s.dmaAddr c).toNat = b ∧ MemSameBut (s.dmaAddr c).toNat s t ∧
        ((s.chan c).cnt = 1#16 →
          ChanBecomes c { s.chan c with hold := none, cnt := s.cap c, ftf := true } s t) ∧
        ((s.chan c).cnt ≠ 1#16 →
          ChanBecomes c { s.chan c with hold := none, cnt := (t.chan c).cnt } s t ∧
          (t.chan c).cnt.toNat + 1 = (s.chan c).cnt.toNat)

/-- R164: a DMA error, enabled exactly while DEN is 1, sets DERR, and clears DEN exactly when DMA_ERR_DISABLES. -/
def Obligations.DmaError : Prop :=
  ∀ (s : State) (c : Chan), spells (0xF000#16 ||| chField c) (.evDerr c) ∧
    ((s.chan c).den = false → noNext (.evDerr c) s) ∧
    ((s.chan c).den = true → ∃ t, exec (.evDerr c) s = .next t ∧ MemSame s t ∧
      (s.cfg.dmaErrDisables = true → ChanBecomes c { s.chan c with derr := true, den := false } s t) ∧
      (s.cfg.dmaErrDisables = false → ChanBecomes c { s.chan c with derr := true } s t))

/-- R167 (a), (b), which the spec derives: from an ArmDma on, with no later RESET or PRST of the channel, `k` DXFERs
leave the count at `C - (k mod C)` and FTF set exactly when k ≥ C, whatever else happens. -/
def Obligations.RingCountLaw : Prop :=
  ∀ (s t : State) (c : Chan) (is : List Instr), s.cfg.wf = true → s.freshlyArmed c →
    (∀ i ∈ is, rearms c i = false) → execAll is s = .next t →
    (t.chan c).cnt.toNat = (s.cap c).toNat - dxfers c is % (s.cap c).toNat ∧
    ((t.chan c).ftf = true ↔ (s.cap c).toNat ≤ dxfers c is)

/-- R167 (c), (d), which the spec derives, for a burst: byte `j` lands at index `j mod C`, so the ring holds the last
C bytes; nothing else in memory changes. -/
def Obligations.RingKeepsTheLastBytes : Prop :=
  ∀ (s : State) (c : Chan) (bs : List Byte), s.cfg.wf = true → s.freshlyArmed c →
    (s.chan c).den = true → (s.chan c).hold = none →
    ∃ t, execAll (burst c bs) s = .next t ∧ (t.chan c).hold = none ∧
      (∀ j, ∀ hj : j < bs.length, bs.length ≤ j + (s.cap c).toNat →
        t.memByte (s.cfg.bufLo c + j % (s.cap c).toNat) = bs[j]) ∧
      (∀ a, (∀ j, j < bs.length → a ≠ s.cfg.bufLo c + j % (s.cap c).toNat) → t.memByte a = s.memByte a)

/-! ### Frame timer -/

/-- R181: a tick, enabled exactly while the timer is armed, counts up; the TPER-th expires it. -/
def Obligations.FrameTimerTick : Prop :=
  ∀ (s : State) (c : Chan), spells (0xB000#16 ||| chField c) (.evFtick c) ∧
    ((s.chan c).ten = false → noNext (.evFtick c) s) ∧
    ((s.chan c).ten = true → ∃ t, exec (.evFtick c) s = .next t ∧ MemSame s t ∧
      ((s.chan c).tcnt.toNat + 1 = (s.tper c).toNat →
        ChanBecomes c { s.chan c with tcnt := 0#16, ten := false, upif := true } s t) ∧
      ((s.chan c).tcnt.toNat + 1 ≠ (s.tper c).toNat →
        ChanBecomes c { s.chan c with tcnt := (s.chan c).tcnt + 1#16 } s t))

/-- R184, which the spec derives: from an ArmTimer on, with no later idle action, RESET or PRST of the channel, the
timer stays armed and counts its ticks until the TPER-th, which sets UPIF; no earlier tick does, and there is no later
one. -/
def Obligations.TimerExpiresOnItsLastTick : Prop :=
  ∀ (s t : State) (c : Chan) (is : List Instr), s.cfg.wf = true → (s.chan c).inited = true →
    (s.chan c).ten = true → (s.chan c).tcnt = 0#16 → (s.chan c).upif = false →
    (∀ i ∈ is, rearms c i = false ∧ i ≠ .evDidle c) → execAll is s = .next t →
    fticks c is ≤ (s.tper c).toNat ∧
    (fticks c is < (s.tper c).toNat →
      (t.chan c).ten = true ∧ (t.chan c).tcnt.toNat = fticks c is ∧ (t.chan c).upif = false) ∧
    (fticks c is = (s.tper c).toNat →
      (t.chan c).ten = false ∧ (t.chan c).tcnt = 0#16 ∧
      (is.getLast? = some (.evFtick c) → (t.chan c).upif = true))

/-- R186, which the spec derives: in every weakly fair infinite run, an armed timer whose channel's line stays quiet
(no further idle condition) and which is not re-armed by a command eventually expires, and its frame is declared
complete. -/
def Obligations.QuietLineLeadsToFrameReady : Prop :=
  ∀ (op : Nat → Instr) (st : Nat → State) (c : Chan), EndlessRun op st → WeaklyFair op st →
    (st 0).cfg.wf = true → BlockInv (st 0) → ((st 0).chan c).ten = true →
    (∀ n, rearms c (op n) = false ∧ op n ≠ .evIdle c) →
    (∃ n, ((st n).chan c).upif = true) ∧ ∃ n, ((st n).chan c).frameState = .frameReady

/-! ### Detector -/

/-- R191: the idle action, enabled exactly while IDLEF is 1, clears IDLEF, writes the length, and arms the timer unless
the length is 0; raw length 0 with FTF set is a full ring. -/
def Obligations.IdleAction : Prop :=
  ∀ (s : State) (c : Chan), spells (0xC000#16 ||| chField c) (.evDidle c) ∧
    ((s.chan c).idlef = false → noNext (.evDidle c) s) ∧
    ∀ l : Half, (s.chan c).idlef = true →
      l = (if s.cap c - (s.chan c).cnt = 0#16 ∧ (s.chan c).ftf = true then s.cap c else s.cap c - (s.chan c).cnt) →
      ∃ t, exec (.evDidle c) s = .next t ∧ MemSame s t ∧
        (l = 0#16 → ChanBecomes c { s.chan c with idlef := false, len := 0#16 } s t) ∧
        (l ≠ 0#16 → ChanBecomes c { s.chan c with idlef := false, len := l, tcnt := 0#16, ten := true } s t)

/-- R192: the expiry action, enabled exactly while UPIF is 1, clears UPIF, re-derives the length, writes a zero byte
right after the last valid one, and sets CFLAG. The stored byte's address is the model's own `sentinelAddr`. -/
def Obligations.ExpiryAction : Prop :=
  ∀ (s : State) (c : Chan), spells (0xD000#16 ||| chField c) (.evDexp c) ∧
    ((s.chan c).upif = false → noNext (.evDexp c) s) ∧
    ∀ l : Half, s.cfg.wf = true → (s.chan c).upif = true → (s.chan c).cnt.toNat ≤ (s.cap c).toNat →
      l = (if s.cap c - (s.chan c).cnt = 0#16 ∧ (s.chan c).ftf = true then s.cap c else s.cap c - (s.chan c).cnt) →
      (s.sentinelAddr c).toNat = s.cfg.bufLo c + l.toNat ∧
      ∃ t, exec (.evDexp c) s = .next t ∧
        t.memByte (s.sentinelAddr c).toNat = 0x00#8 ∧ MemSameBut (s.sentinelAddr c).toNat s t ∧
        ChanBecomes c { s.chan c with upif := false, len := l, cflag := 1#2 } s t

/-- R193, which the spec derives: a spurious idle (raw length 0, FTF clear) changes only IDLEF, and no expiry action
ever meets that case. -/
def Obligations.SpuriousIdleChangesOnlyIdlef : Prop :=
  ∀ (s : State) (c : Chan), s.cfg.wf = true → BlockInv s → (s.chan c).cnt = s.cap c → (s.chan c).ftf = false →
    ((s.chan c).idlef = true → ∃ t, exec (.evDidle c) s = .next t ∧
      ChanBecomes c { s.chan c with idlef := false } s t ∧ MemSame s t) ∧
    (s.chan c).upif = false

/-- R194: after exactly C bytes since the last ArmDma, DEXP gives `len = C` and writes the sentinel at `B + C`. -/
def Obligations.FullRingReadsAsCapacity : Prop :=
  ∀ (s u : State) (c : Chan) (is : List Instr), s.cfg.wf = true → s.freshlyArmed c →
    (∀ i ∈ is, rearms c i = false) → execAll is s = .next u → dxfers c is = (s.cap c).toNat →
    (u.chan c).upif = true →
    ∃ t, exec (.evDexp c) u = .next t ∧ (t.chan c).len = s.cap c ∧
      t.memByte (s.cfg.bufLo c + (s.cap c).toNat) = 0x00#8 ∧
      MemSameBut (s.cfg.bufLo c + (s.cap c).toNat) u t

/-- R195, which the spec derives: the sentinel a DEXP wrote stays 0 until the channel's next DXFER, which overwrites
it when the frame is shorter than the ring; the sentinel of a full frame is never overwritten. -/
def Obligations.SentinelStaysUntilTheNextTransfer : Prop :=
  ∀ (s u t : State) (c : Chan) (is : List Instr), s.cfg.wf = true → BlockInv s → exec (.evDexp c) s = .next u →
    execAll is u = .next t →
    (dxfers c is = 0 → t.memByte (s.cfg.bufLo c + (u.chan c).len.toNat) = 0x00#8) ∧
    ((u.chan c).len = s.cap c → t.memByte (s.cfg.bufLo c + (s.cap c).toNat) = 0x00#8) ∧
    ((u.chan c).len ≠ s.cap c → (u.dmaAddr c).toNat = s.cfg.bufLo c + (u.chan c).len.toNat)

/-- R196, which the spec derives: the frame-state transitions, and no others. -/
def Obligations.FrameStateTransitions : Prop :=
  ∀ (i : Instr) (s t : State) (c : Chan), s.cfg.wf = true → BlockInv s → exec i s = .next t →
    let f := (s.chan c).frameState
    let g := (t.chan c).frameState
    (f ≠ g →
      (f = .uninit ∧ g = .idle ∧ i = .cmdInit c) ∨
      (f = .idle ∧ g = .timerArmed ∧ i = .evDidle c) ∨
      (f = .timerArmed ∧ g = .frameReady ∧ i = .evDexp c) ∨
      ((f = .frameReady ∨ f = .timerArmed) ∧ g = .idle ∧ i = .cmdReset c) ∨
      (f ≠ .uninit ∧ g = .uninit ∧ i = .cmdPrst c)) ∧
    (i = .cmdInit c → f = .uninit → g = .idle) ∧
    (i = .evDidle c → f = .idle →
      g = if (s.chan c).cnt = s.cap c ∧ (s.chan c).ftf = false then .idle else .timerArmed) ∧
    (i = .evDidle c ∨ i = .evFtick c → f = .timerArmed → g = .timerArmed) ∧
    (i = .evDexp c → f = .timerArmed → g = .frameReady) ∧
    (i = .cmdReset c → f ≠ .uninit → g = .idle) ∧
    (i = .evDidle c ∨ i = .evDexp c ∨ i = .evFtick c → f = .frameReady → g = .frameReady) ∧
    (i = .cmdPrst c → g = .uninit)

/-- R197, which the spec derives: with at most C DXFERs since the last ArmDma, the received length never falls. -/
def Obligations.LengthIsMonotonicWithinAFrame : Prop :=
  ∀ (s u t : State) (c : Chan) (xs ys : List Instr), s.cfg.wf = true → BlockInv s → s.freshlyArmed c →
    (∀ i ∈ xs ++ ys, rearms c i = false) → execAll xs s = .next u → execAll ys u = .next t →
    dxfers c (xs ++ ys) ≤ (s.cap c).toNat →
    (u.chan c).len.toNat ≤ (t.chan c).len.toNat

/-- R198, which the spec derives: between two re-arms CFLAG, once 1, stays 1; so it goes from 0 to 1 at most once. -/
def Obligations.CompletionHappensAtMostOnce : Prop :=
  ∀ (s u t : State) (c : Chan) (xs ys : List Instr), (s.chan c).inited = true →
    (∀ i ∈ xs ++ ys, rearms c i = false) → execAll xs s = .next u → execAll ys u = .next t →
    (u.chan c).cflag = 1#2 → (t.chan c).cflag = 1#2

/-- R199: with IDLEF and UPIF both pending either action may go first, and both orders end in the same state. -/
def Obligations.PendingActionsCommute : Prop :=
  ∀ (s : State) (c : Chan), (s.chan c).idlef = true → (s.chan c).upif = true →
    ∃ t, execAll [.evDexp c, .evDidle c] s = .next t ∧ execAll [.evDidle c, .evDexp c] s = .next t ∧
      (t.chan c).cflag = 1#2 ∧ (t.chan c).len = (s.chan c).frameLen (s.cap c)

/-- R201, which the spec derives: a frame declared while nothing is held stays frozen, with its sentinel, while no
byte arrives and the channel is not re-armed, whatever else happens. -/
def Obligations.FrozenFrameLaw : Prop :=
  ∀ (s u t : State) (c : Chan) (is : List Instr), s.cfg.wf = true → BlockInv s → (s.chan c).hold = none →
    exec (.evDexp c) s = .next u → (∀ i ∈ is, rearms c i = false ∧ ∀ b, i ≠ .evByte c b) →
    execAll is u = .next t →
    (t.chan c).len = (u.chan c).len ∧ (t.chan c).cflag = 1#2 ∧
    (∀ x, x ≤ (u.chan c).len.toNat → t.memByte (s.cfg.bufLo c + x) = u.memByte (s.cfg.bufLo c + x))

/-- R357: a channel is quiescent exactly when none of its own agents has an enabled operation. -/
def Obligations.QuiescentChannelHasNoStep : Prop :=
  ∀ (s : State) (c : Chan), (s.chan c).quiescent = true ↔
    ∀ i ∈ [Instr.evDxfer c, .evFtick c, .evDidle c, .evDexp c], exec i s = .fault .notEnabled
end

