-- ==== Sys2Proof/Laws/Decode.lean ====
section
/-! SUPPORT. Laws/Decode.lean: the fields of a packed word, and the small codes read back. -/

namespace Sys2Proof

/-- The bits of a packed word, from the top field down. -/
theorem packWord_getLsbD (cls : BitVec 4) (ch sz : BitVec 2) (arg : Byte) (k : Nat) :
    (packWord cls ch sz arg).getLsbD k =
      if k < 8 then arg.getLsbD k
      else if k < 10 then sz.getLsbD (k - 8)
      else if k < 12 then ch.getLsbD (k - 10)
      else cls.getLsbD (k - 12) := by
  have h : (packWord cls ch sz arg).getLsbD k = BitVec.getLsbD (w := 4 + 2 + 2 + 8) (cls ++ ch ++ sz ++ arg) k := rfl
  rw [h, BitVec.getLsbD_append, BitVec.getLsbD_append, BitVec.getLsbD_append]
  by_cases h1 : k < 8
  · simp [h1]
  · by_cases h2 : k < 10
    · simp [h1, h2, show k - 8 < 2 by omega]
    · by_cases h3 : k < 12
      · simp [h1, h2, h3, show ¬ k - 8 < 2 by omega, show k - 8 - 2 = k - 10 by omega]
        omega
      · simp [h1, h2, h3, show ¬ k - 8 < 2 by omega, show ¬ k - 8 - 2 < 2 by omega, show k - 8 - 2 - 2 = k - 12 by omega]

@[simp] theorem clsOf_packWord (cls : BitVec 4) (ch sz : BitVec 2) (arg : Byte) :
    clsOf (packWord cls ch sz arg) = cls := by
  apply BitVec.eq_of_getLsbD_eq
  intro i hi
  simp only [clsOf, BitVec.getLsbD_extractLsb', packWord_getLsbD]
  simp [hi, show ¬ 12 + i < 8 by omega, show ¬ 12 + i < 10 by omega]

@[simp] theorem chOf_packWord (cls : BitVec 4) (ch sz : BitVec 2) (arg : Byte) :
    chOf (packWord cls ch sz arg) = ch := by
  apply BitVec.eq_of_getLsbD_eq
  intro i hi
  simp only [chOf, BitVec.getLsbD_extractLsb', packWord_getLsbD]
  simp [hi, show ¬ 10 + i < 8 by omega, show 10 + i < 12 by omega]

@[simp] theorem szOf_packWord (cls : BitVec 4) (ch sz : BitVec 2) (arg : Byte) :
    szOf (packWord cls ch sz arg) = sz := by
  apply BitVec.eq_of_getLsbD_eq
  intro i hi
  simp only [szOf, BitVec.getLsbD_extractLsb', packWord_getLsbD]
  simp [hi, show 8 + i < 10 by omega]

@[simp] theorem argOf_packWord (cls : BitVec 4) (ch sz : BitVec 2) (arg : Byte) :
    argOf (packWord cls ch sz arg) = arg := by
  apply BitVec.eq_of_getLsbD_eq
  intro i hi
  simp only [argOf, BitVec.getLsbD_extractLsb', packWord_getLsbD]
  simp [hi]

/-- A word is its four fields packed. -/
theorem packWord_fields (w : BitVec 16) : packWord (clsOf w) (chOf w) (szOf w) (argOf w) = w := by
  apply BitVec.eq_of_getLsbD_eq
  intro i hi
  rw [packWord_getLsbD]
  simp only [clsOf, chOf, szOf, argOf, BitVec.getLsbD_extractLsb']
  by_cases h1 : i < 8
  · simp [h1]
  · by_cases h2 : i < 10
    · simp [h1, h2, show i - 8 < 2 by omega, show 8 + (i - 8) = i by omega]
    · by_cases h3 : i < 12
      · simp [h1, h2, h3, show i - 10 < 2 by omega, show 10 + (i - 10) = i by omega]
      · simp [h1, h2, h3, show i - 12 < 4 by omega, show 12 + (i - 12) = i by omega]

@[simp] theorem regOf_regArg (reg : BitVec 4) : regOf (regArg reg) = reg := by
  revert reg; decide

@[simp] theorem Chan.ofBits_toBits (c : Chan) : Chan.ofBits c.toBits = some c := by
  cases c <;> rfl

@[simp] theorem Size.ofBits_toBits (z : Size) : Size.ofBits z.toBits = some z := by
  cases z <;> rfl

/-- The channel a CH field names encodes to that field. -/
theorem Chan.toBits_ofBits {b : BitVec 2} {c : Chan} (h : Chan.ofBits b = some c) : c.toBits = b := by
  revert b c; decide +revert

/-- Only CH = 3 names no channel. -/
theorem Chan.ofBits_eq_none {b : BitVec 2} : Chan.ofBits b = none ↔ b = 3#2 := by
  revert b; decide

end Sys2Proof
end

