-- ==== Sys2Proof/Laws/State.lean ====
section
/-! SUPPORT. Laws/State.lean: one lemma per field per update of the state, so that no proof unfolds an update. -/

namespace Sys2Proof

@[simp] theorem PerChan.get_set_same {α : Type} (p : PerChan α) (c : Chan) (x : α) : (p.set c x).get c = x := by
  cases c <;> rfl

@[simp] theorem PerChan.get_set_ne {α : Type} (p : PerChan α) {c d : Chan} (x : α) (h : d ≠ c) :
    (p.set c x).get d = p.get d := by
  cases c <;> cases d <;> first | rfl | exact absurd rfl h

theorem PerChan.get_set {α : Type} (p : PerChan α) (c d : Chan) (x : α) :
    (p.set c x).get d = if d = c then x else p.get d := by
  by_cases h : d = c
  · subst h; simp
  · simp [h]

@[simp] theorem PerChan.set_get {α : Type} (p : PerChan α) (c : Chan) : p.set c (p.get c) = p := by
  cases c <;> rfl

@[simp] theorem PerChan.set_set {α : Type} (p : PerChan α) (c : Chan) (x y : α) :
    (p.set c x).set c y = p.set c y := by
  cases c <;> rfl

/-- Two records of channels with the same channels are the same. -/
theorem PerChan.ext_get {α : Type} {p q : PerChan α} (h : ∀ c, p.get c = q.get c) : p = q := by
  cases p; cases q
  have h0 := h .c0; have h1 := h .c1; have h2 := h .c2
  simp only [PerChan.get] at h0 h1 h2
  subst h0 h1 h2; rfl

end Sys2Proof

namespace Sys2Proof.Machine

/-! ### setChan -/

@[simp] theorem State.setChan_cfg (s : State) (c : Chan) (x : Channel) : (s.setChan c x).cfg = s.cfg := rfl
@[simp] theorem State.setChan_ch (s : State) (c : Chan) (x : Channel) : (s.setChan c x).ch = s.ch.set c x := rfl
@[simp] theorem State.setChan_tb (s : State) (c : Chan) (x : Channel) : (s.setChan c x).tb = s.tb := rfl
@[simp] theorem State.setChan_mem (s : State) (c : Chan) (x : Channel) : (s.setChan c x).mem = s.mem := rfl
@[simp] theorem State.setChan_faults (s : State) (c : Chan) (x : Channel) : (s.setChan c x).faults = s.faults := rfl
@[simp] theorem State.setChan_refused (s : State) (c : Chan) (x : Channel) : (s.setChan c x).refused = s.refused := rfl
@[simp] theorem State.setChan_draws (s : State) (c : Chan) (x : Channel) : (s.setChan c x).draws = s.draws := rfl
@[simp] theorem State.setChan_report (s : State) (c : Chan) (x : Channel) : (s.setChan c x).report = s.report := rfl
@[simp] theorem State.setChan_sched (s : State) (c : Chan) (x : Channel) : (s.setChan c x).sched = s.sched := rfl
@[simp] theorem State.setChan_cap (s : State) (c : Chan) (x : Channel) (d : Chan) : (s.setChan c x).cap d = s.cap d := rfl
@[simp] theorem State.setChan_buf (s : State) (c : Chan) (x : Channel) (d : Chan) : (s.setChan c x).buf d = s.buf d := rfl
@[simp] theorem State.setChan_tper (s : State) (c : Chan) (x : Channel) (d : Chan) : (s.setChan c x).tper d = s.tper d := rfl
@[simp] theorem State.setChan_memByte (s : State) (c : Chan) (x : Channel) (a : Nat) : (s.setChan c x).memByte a = s.memByte a := rfl

/-! ### setTb -/

@[simp] theorem State.setTb_cfg (s : State) (x : TimeBase) : (s.setTb x).cfg = s.cfg := rfl
@[simp] theorem State.setTb_ch (s : State) (x : TimeBase) : (s.setTb x).ch = s.ch := rfl
@[simp] theorem State.setTb_tb (s : State) (x : TimeBase) : (s.setTb x).tb = x := rfl
@[simp] theorem State.setTb_mem (s : State) (x : TimeBase) : (s.setTb x).mem = s.mem := rfl
@[simp] theorem State.setTb_faults (s : State) (x : TimeBase) : (s.setTb x).faults = s.faults := rfl
@[simp] theorem State.setTb_refused (s : State) (x : TimeBase) : (s.setTb x).refused = s.refused := rfl
@[simp] theorem State.setTb_draws (s : State) (x : TimeBase) : (s.setTb x).draws = s.draws := rfl
@[simp] theorem State.setTb_report (s : State) (x : TimeBase) : (s.setTb x).report = s.report := rfl
@[simp] theorem State.setTb_sched (s : State) (x : TimeBase) : (s.setTb x).sched = s.sched := rfl
@[simp] theorem State.setTb_chan (s : State) (x : TimeBase) (d : Chan) : (s.setTb x).chan d = s.chan d := rfl
@[simp] theorem State.setTb_cap (s : State) (x : TimeBase) (d : Chan) : (s.setTb x).cap d = s.cap d := rfl
@[simp] theorem State.setTb_buf (s : State) (x : TimeBase) (d : Chan) : (s.setTb x).buf d = s.buf d := rfl
@[simp] theorem State.setTb_tper (s : State) (x : TimeBase) (d : Chan) : (s.setTb x).tper d = s.tper d := rfl
@[simp] theorem State.setTb_memByte (s : State) (x : TimeBase) (a : Nat) : (s.setTb x).memByte a = s.memByte a := rfl

/-! ### done -/

@[simp] theorem State.done_cfg (s : State) : (s.done).cfg = s.cfg := rfl
@[simp] theorem State.done_ch (s : State) : (s.done).ch = s.ch := rfl
@[simp] theorem State.done_tb (s : State) : (s.done).tb = s.tb := rfl
@[simp] theorem State.done_mem (s : State) : (s.done).mem = s.mem := rfl
@[simp] theorem State.done_faults (s : State) : (s.done).faults = s.faults := rfl
@[simp] theorem State.done_refused (s : State) : (s.done).refused = s.refused := rfl
@[simp] theorem State.done_draws (s : State) : (s.done).draws = s.draws := rfl
@[simp] theorem State.done_report (s : State) : (s.done).report = .done := rfl
@[simp] theorem State.done_sched (s : State) : (s.done).sched = s.sched := rfl
@[simp] theorem State.done_chan (s : State) (d : Chan) : (s.done).chan d = s.chan d := rfl
@[simp] theorem State.done_cap (s : State) (d : Chan) : (s.done).cap d = s.cap d := rfl
@[simp] theorem State.done_buf (s : State) (d : Chan) : (s.done).buf d = s.buf d := rfl
@[simp] theorem State.done_tper (s : State) (d : Chan) : (s.done).tper d = s.tper d := rfl
@[simp] theorem State.done_memByte (s : State) (a : Nat) : (s.done).memByte a = s.memByte a := rfl

/-! ### returns -/

@[simp] theorem State.returns_cfg (s : State) (v : Word) : (s.returns v).cfg = s.cfg := rfl
@[simp] theorem State.returns_ch (s : State) (v : Word) : (s.returns v).ch = s.ch := rfl
@[simp] theorem State.returns_tb (s : State) (v : Word) : (s.returns v).tb = s.tb := rfl
@[simp] theorem State.returns_mem (s : State) (v : Word) : (s.returns v).mem = s.mem := rfl
@[simp] theorem State.returns_faults (s : State) (v : Word) : (s.returns v).faults = s.faults := rfl
@[simp] theorem State.returns_refused (s : State) (v : Word) : (s.returns v).refused = s.refused := rfl
@[simp] theorem State.returns_draws (s : State) (v : Word) : (s.returns v).draws = s.draws := rfl
@[simp] theorem State.returns_report (s : State) (v : Word) : (s.returns v).report = .value v := rfl
@[simp] theorem State.returns_sched (s : State) (v : Word) : (s.returns v).sched = s.sched := rfl
@[simp] theorem State.returns_chan (s : State) (v : Word) (d : Chan) : (s.returns v).chan d = s.chan d := rfl
@[simp] theorem State.returns_cap (s : State) (v : Word) (d : Chan) : (s.returns v).cap d = s.cap d := rfl
@[simp] theorem State.returns_buf (s : State) (v : Word) (d : Chan) : (s.returns v).buf d = s.buf d := rfl
@[simp] theorem State.returns_tper (s : State) (v : Word) (d : Chan) : (s.returns v).tper d = s.tper d := rfl
@[simp] theorem State.returns_memByte (s : State) (v : Word) (a : Nat) : (s.returns v).memByte a = s.memByte a := rfl

/-! ### withSched -/

@[simp] theorem State.withSched_cfg (s : State) (rest : List Request) : (s.withSched rest).cfg = s.cfg := rfl
@[simp] theorem State.withSched_ch (s : State) (rest : List Request) : (s.withSched rest).ch = s.ch := rfl
@[simp] theorem State.withSched_tb (s : State) (rest : List Request) : (s.withSched rest).tb = s.tb := rfl
@[simp] theorem State.withSched_mem (s : State) (rest : List Request) : (s.withSched rest).mem = s.mem := rfl
@[simp] theorem State.withSched_faults (s : State) (rest : List Request) : (s.withSched rest).faults = s.faults := rfl
@[simp] theorem State.withSched_refused (s : State) (rest : List Request) : (s.withSched rest).refused = s.refused := rfl
@[simp] theorem State.withSched_draws (s : State) (rest : List Request) : (s.withSched rest).draws = s.draws := rfl
@[simp] theorem State.withSched_report (s : State) (rest : List Request) : (s.withSched rest).report = s.report := rfl
@[simp] theorem State.withSched_sched (s : State) (rest : List Request) : (s.withSched rest).sched = rest := rfl
@[simp] theorem State.withSched_chan (s : State) (rest : List Request) (d : Chan) : (s.withSched rest).chan d = s.chan d := rfl
@[simp] theorem State.withSched_cap (s : State) (rest : List Request) (d : Chan) : (s.withSched rest).cap d = s.cap d := rfl
@[simp] theorem State.withSched_buf (s : State) (rest : List Request) (d : Chan) : (s.withSched rest).buf d = s.buf d := rfl
@[simp] theorem State.withSched_tper (s : State) (rest : List Request) (d : Chan) : (s.withSched rest).tper d = s.tper d := rfl
@[simp] theorem State.withSched_memByte (s : State) (rest : List Request) (a : Nat) : (s.withSched rest).memByte a = s.memByte a := rfl

/-! ### storeByte -/

@[simp] theorem State.storeByte_cfg (s : State) (a : Word) (b : Byte) : (s.storeByte a b).cfg = s.cfg := rfl
@[simp] theorem State.storeByte_ch (s : State) (a : Word) (b : Byte) : (s.storeByte a b).ch = s.ch := rfl
@[simp] theorem State.storeByte_tb (s : State) (a : Word) (b : Byte) : (s.storeByte a b).tb = s.tb := rfl
@[simp] theorem State.storeByte_mem (s : State) (a : Word) (b : Byte) : (s.storeByte a b).mem = s.mem.write a.toNat b := rfl
@[simp] theorem State.storeByte_faults (s : State) (a : Word) (b : Byte) : (s.storeByte a b).faults = s.faults := rfl
@[simp] theorem State.storeByte_refused (s : State) (a : Word) (b : Byte) : (s.storeByte a b).refused = s.refused := rfl
@[simp] theorem State.storeByte_draws (s : State) (a : Word) (b : Byte) : (s.storeByte a b).draws = s.draws := rfl
@[simp] theorem State.storeByte_report (s : State) (a : Word) (b : Byte) : (s.storeByte a b).report = s.report := rfl
@[simp] theorem State.storeByte_sched (s : State) (a : Word) (b : Byte) : (s.storeByte a b).sched = s.sched := rfl
@[simp] theorem State.storeByte_chan (s : State) (a : Word) (b : Byte) (d : Chan) : (s.storeByte a b).chan d = s.chan d := rfl
@[simp] theorem State.storeByte_cap (s : State) (a : Word) (b : Byte) (d : Chan) : (s.storeByte a b).cap d = s.cap d := rfl
@[simp] theorem State.storeByte_buf (s : State) (a : Word) (b : Byte) (d : Chan) : (s.storeByte a b).buf d = s.buf d := rfl
@[simp] theorem State.storeByte_tper (s : State) (a : Word) (b : Byte) (d : Chan) : (s.storeByte a b).tper d = s.tper d := rfl

/-! ### countDraw -/

@[simp] theorem State.countDraw_cfg (s : State) (c : Chan) : (s.countDraw c).cfg = s.cfg := rfl
@[simp] theorem State.countDraw_ch (s : State) (c : Chan) : (s.countDraw c).ch = s.ch := rfl
@[simp] theorem State.countDraw_tb (s : State) (c : Chan) : (s.countDraw c).tb = s.tb := rfl
@[simp] theorem State.countDraw_mem (s : State) (c : Chan) : (s.countDraw c).mem = s.mem := rfl
@[simp] theorem State.countDraw_faults (s : State) (c : Chan) : (s.countDraw c).faults = s.faults := rfl
@[simp] theorem State.countDraw_refused (s : State) (c : Chan) : (s.countDraw c).refused = s.refused := rfl
@[simp] theorem State.countDraw_draws (s : State) (c : Chan) : (s.countDraw c).draws = s.draws.set c (s.draws.get c + 1) := rfl
@[simp] theorem State.countDraw_report (s : State) (c : Chan) : (s.countDraw c).report = s.report := rfl
@[simp] theorem State.countDraw_sched (s : State) (c : Chan) : (s.countDraw c).sched = s.sched := rfl
@[simp] theorem State.countDraw_chan (s : State) (c : Chan) (d : Chan) : (s.countDraw c).chan d = s.chan d := rfl
@[simp] theorem State.countDraw_cap (s : State) (c : Chan) (d : Chan) : (s.countDraw c).cap d = s.cap d := rfl
@[simp] theorem State.countDraw_buf (s : State) (c : Chan) (d : Chan) : (s.countDraw c).buf d = s.buf d := rfl
@[simp] theorem State.countDraw_tper (s : State) (c : Chan) (d : Chan) : (s.countDraw c).tper d = s.tper d := rfl
@[simp] theorem State.countDraw_memByte (s : State) (c : Chan) (a : Nat) : (s.countDraw c).memByte a = s.memByte a := rfl

/-! ### raiseFault -/

@[simp] theorem raiseFault_cfg (s : State) (code : FaultCode) : (raiseFault code s).cfg = s.cfg := rfl
@[simp] theorem raiseFault_ch (s : State) (code : FaultCode) : (raiseFault code s).ch = s.ch := rfl
@[simp] theorem raiseFault_tb (s : State) (code : FaultCode) : (raiseFault code s).tb = s.tb := rfl
@[simp] theorem raiseFault_mem (s : State) (code : FaultCode) : (raiseFault code s).mem = s.mem := rfl
@[simp] theorem raiseFault_faults (s : State) (code : FaultCode) : (raiseFault code s).faults = s.faults.add code := rfl
@[simp] theorem raiseFault_refused (s : State) (code : FaultCode) : (raiseFault code s).refused = s.refused := rfl
@[simp] theorem raiseFault_draws (s : State) (code : FaultCode) : (raiseFault code s).draws = s.draws := rfl
@[simp] theorem raiseFault_report (s : State) (code : FaultCode) : (raiseFault code s).report = .faulted code := rfl
@[simp] theorem raiseFault_sched (s : State) (code : FaultCode) : (raiseFault code s).sched = s.sched := rfl
@[simp] theorem raiseFault_chan (s : State) (code : FaultCode) (d : Chan) : (raiseFault code s).chan d = s.chan d := rfl
@[simp] theorem raiseFault_cap (s : State) (code : FaultCode) (d : Chan) : (raiseFault code s).cap d = s.cap d := rfl
@[simp] theorem raiseFault_buf (s : State) (code : FaultCode) (d : Chan) : (raiseFault code s).buf d = s.buf d := rfl
@[simp] theorem raiseFault_tper (s : State) (code : FaultCode) (d : Chan) : (raiseFault code s).tper d = s.tper d := rfl
@[simp] theorem raiseFault_memByte (s : State) (code : FaultCode) (a : Nat) : (raiseFault code s).memByte a = s.memByte a := rfl

/-! ### refuse -/

@[simp] theorem refuse_cfg (s : State) (why : RefusalReason) : (refuse why s).cfg = s.cfg := rfl
@[simp] theorem refuse_ch (s : State) (why : RefusalReason) : (refuse why s).ch = s.ch := rfl
@[simp] theorem refuse_tb (s : State) (why : RefusalReason) : (refuse why s).tb = s.tb := rfl
@[simp] theorem refuse_mem (s : State) (why : RefusalReason) : (refuse why s).mem = s.mem := rfl
@[simp] theorem refuse_faults (s : State) (why : RefusalReason) : (refuse why s).faults = s.faults := rfl
@[simp] theorem refuse_refused (s : State) (why : RefusalReason) : (refuse why s).refused = true := rfl
@[simp] theorem refuse_draws (s : State) (why : RefusalReason) : (refuse why s).draws = s.draws := rfl
@[simp] theorem refuse_report (s : State) (why : RefusalReason) : (refuse why s).report = .refused why := rfl
@[simp] theorem refuse_sched (s : State) (why : RefusalReason) : (refuse why s).sched = s.sched := rfl
@[simp] theorem refuse_chan (s : State) (why : RefusalReason) (d : Chan) : (refuse why s).chan d = s.chan d := rfl
@[simp] theorem refuse_cap (s : State) (why : RefusalReason) (d : Chan) : (refuse why s).cap d = s.cap d := rfl
@[simp] theorem refuse_buf (s : State) (why : RefusalReason) (d : Chan) : (refuse why s).buf d = s.buf d := rfl
@[simp] theorem refuse_tper (s : State) (why : RefusalReason) (d : Chan) : (refuse why s).tper d = s.tper d := rfl
@[simp] theorem refuse_memByte (s : State) (why : RefusalReason) (a : Nat) : (refuse why s).memByte a = s.memByte a := rfl

/-! ### Power-on -/

@[simp] theorem State.powerOn_cfg (cfg : Config) : (State.powerOn cfg).cfg = cfg := rfl
@[simp] theorem State.powerOn_tb (cfg : Config) : (State.powerOn cfg).tb = TimeBase.powerOn := rfl
@[simp] theorem State.powerOn_mem (cfg : Config) : (State.powerOn cfg).mem = [] := rfl
@[simp] theorem State.powerOn_faults (cfg : Config) : (State.powerOn cfg).faults = FaultSet.empty := rfl
@[simp] theorem State.powerOn_refused (cfg : Config) : (State.powerOn cfg).refused = false := rfl
@[simp] theorem State.powerOn_draws (cfg : Config) : (State.powerOn cfg).draws = ⟨0, 0, 0⟩ := rfl
@[simp] theorem State.powerOn_report (cfg : Config) : (State.powerOn cfg).report = .idle := rfl
@[simp] theorem State.powerOn_sched (cfg : Config) : (State.powerOn cfg).sched = [] := rfl
@[simp] theorem State.powerOn_chan (cfg : Config) (d : Chan) : (State.powerOn cfg).chan d = Channel.powerOn := by
  cases d <;> rfl
@[simp] theorem State.powerOn_cap (cfg : Config) (d : Chan) : (State.powerOn cfg).cap d = (cfg.ch.get d).cap := rfl
@[simp] theorem State.powerOn_buf (cfg : Config) (d : Chan) : (State.powerOn cfg).buf d = (cfg.ch.get d).buf := rfl
@[simp] theorem State.powerOn_tper (cfg : Config) (d : Chan) : (State.powerOn cfg).tper d = (cfg.ch.get d).tper := rfl
@[simp] theorem State.powerOn_memByte (cfg : Config) (a : Nat) :
    (State.powerOn cfg).memByte a = Config.launchByte a := rfl

/-! ### Channels after setChan -/

@[simp] theorem State.setChan_chan_same (s : State) (c : Chan) (x : Channel) : (s.setChan c x).chan c = x := by
  simp [State.chan]

@[simp] theorem State.setChan_chan_ne (s : State) {c d : Chan} (x : Channel) (h : d ≠ c) :
    (s.setChan c x).chan d = s.chan d := by
  simp [State.chan, h]

theorem State.setChan_chan (s : State) (c d : Chan) (x : Channel) :
    (s.setChan c x).chan d = if d = c then x else s.chan d := by
  simp [State.chan, PerChan.get_set]

end Sys2Proof.Machine
end

