-- ==== Sys2Proof/Laws/Memory.lean ====
section
/-! SUPPORT. Laws/Memory.lean: read after write, and the canonical form is kept by every memory operation. -/

namespace Sys2Proof.Machine

theorem Memory.lookup_write_same (m : Memory) (a : Nat) (b : Byte) : (m.write a b).lookup a = some b := by
  induction m with
  | nil => simp [Memory.write, Memory.lookup]
  | cons p rest ih =>
    obtain ⟨k, x⟩ := p
    simp only [Memory.write]
    split
    · simp [Memory.lookup]
    · split
      · simp [Memory.lookup]
      · simp [Memory.lookup, *]

theorem Memory.lookup_write_ne (m : Memory) {a x : Nat} (b : Byte) (h : x ≠ a) :
    (m.write a b).lookup x = m.lookup x := by
  induction m with
  | nil => simp [Memory.write, Memory.lookup, h]
  | cons p rest ih =>
    obtain ⟨k, y⟩ := p
    simp only [Memory.write]
    split
    · simp [Memory.lookup, h]
    · split
      · rename_i h1 h2; subst h2; simp [Memory.lookup, h]
      · simp [Memory.lookup, ih]

/-- A byte written is the byte read. -/
@[simp] theorem Memory.byteAt_write_same (m : Memory) (a : Nat) (b : Byte) : (m.write a b).byteAt a = b := by
  simp [Memory.byteAt, Memory.lookup_write_same]

/-- A write leaves every other byte alone. -/
theorem Memory.byteAt_write_ne (m : Memory) {a x : Nat} (b : Byte) (h : x ≠ a) :
    (m.write a b).byteAt x = m.byteAt x := by
  simp [Memory.byteAt, Memory.lookup_write_ne m b h]

theorem Memory.risesFrom_mono {m : Memory} {lo lo' : Nat} (h : Memory.risesFrom lo m = true) (hl : lo' ≤ lo) :
    Memory.risesFrom lo' m = true := by
  cases m with
  | nil => rfl
  | cons p rest =>
    simp only [Memory.risesFrom, Bool.and_eq_true, decide_eq_true_eq] at h ⊢
    exact ⟨by omega, h.2⟩

theorem Memory.risesFrom_write {m : Memory} {lo a : Nat} (b : Byte) (h : Memory.risesFrom lo m = true)
    (ha : lo ≤ a) : Memory.risesFrom lo (m.write a b) = true := by
  induction m generalizing lo with
  | nil => simp [Memory.write, Memory.risesFrom, ha]
  | cons p rest ih =>
    obtain ⟨k, x⟩ := p
    simp only [Memory.risesFrom, Bool.and_eq_true, decide_eq_true_eq] at h
    simp only [Memory.write]
    split
    · simp only [Memory.risesFrom, Bool.and_eq_true, decide_eq_true_eq]
      exact ⟨ha, by omega, h.2⟩
    · split
      · rename_i h2; subst h2
        simp only [Memory.risesFrom, Bool.and_eq_true, decide_eq_true_eq]
        exact ⟨ha, h.2⟩
      · simp only [Memory.risesFrom, Bool.and_eq_true, decide_eq_true_eq]
        exact ⟨h.1, ih h.2 (by omega)⟩

/-- A write keeps the canonical form. -/
theorem Memory.wf_write {m : Memory} (a : Nat) (b : Byte) (h : m.wf = true) : (m.write a b).wf = true :=
  Memory.risesFrom_write b h (Nat.zero_le a)

/-- The cells listed after a write are the cell written or were listed before. -/
theorem Memory.mem_write {m : Memory} {a : Nat} {b : Byte} {p : Host.Cell} (h : p ∈ m.write a b) :
    p = (a, b) ∨ p ∈ m := by
  induction m with
  | nil => simpa [Memory.write] using h
  | cons q rest ih =>
    obtain ⟨k, x⟩ := q
    simp only [Memory.write] at h
    split at h
    · simp only [List.mem_cons] at h ⊢; tauto
    · split at h
      · simp only [List.mem_cons] at h ⊢; tauto
      · simp only [List.mem_cons] at h ⊢
        rcases h with h | h
        · exact .inr (.inl h)
        · rcases ih h with h | h
          · exact .inl h
          · exact .inr (.inr h)

@[simp] theorem State.storeByte_memByte_same (s : State) (a : Word) (b : Byte) :
    (s.storeByte a b).memByte a.toNat = b := by
  simp [State.memByte]

theorem State.storeByte_memByte_ne (s : State) {a : Word} (b : Byte) {x : Nat} (h : x ≠ a.toNat) :
    (s.storeByte a b).memByte x = s.memByte x := by
  simpa [State.memByte] using Memory.byteAt_write_ne s.mem b h

/-- A store keeps the canonical form. -/
theorem State.storeByte_wf {s : State} (a : Word) (b : Byte) (h : s.mem.wf = true) : (s.storeByte a b).mem.wf = true :=
  Memory.wf_write a.toNat b h

/-- Nothing is listed at reset, so the canonical form holds. -/
theorem State.reset_mem_wf : State.reset.mem.wf = true := rfl

end Sys2Proof.Machine
end

