-- ==== Sys2Proof/Laws/Ops.lean ====
section
/-! SUPPORT. Laws/Ops.lean: for each shared operation, one lemma that says what it can do. -/

namespace Sys2Proof.Machine

/-! ### Faults, refusals, enabling -/

/-- Adding a code adds that code and no other. -/
@[simp] theorem FaultSet.has_add (f : FaultSet) (code d : FaultCode) :
    (f.add code).has d = (decide (d = code) || f.has d) := by
  cases code <;> cases d <;> simp [FaultSet.add, FaultSet.has]

/-- A set of codes is known by its members. -/
theorem FaultSet.ext_has {f g : FaultSet} (h : ∀ d, f.has d = g.has d) : f = g := by
  cases f; cases g
  have h1 := h .badReg; have h2 := h .badWidth; have h3 := h .writeRo; have h4 := h .readWo; have h5 := h .badCmd
  have h6 := h .initArmed; have h7 := h .notInit; have h8 := h .bufWrite; have h9 := h .bufAlign
  simp only [FaultSet.has] at h1 h2 h3 h4 h5 h6 h7 h8 h9
  simp only [*]

/-- A guarded operation answers a next state exactly where it is enabled. -/
@[simp] theorem whenEnabled_eq_next {g : Bool} {t u : State} :
    whenEnabled g t = .next u ↔ g = true ∧ t = u := by
  cases g <;> simp [whenEnabled]

/-- Where it is not enabled it has no step. -/
@[simp] theorem whenEnabled_false (t : State) : whenEnabled false t = .fault .notEnabled := rfl

/-- Where it is enabled it has its effect. -/
@[simp] theorem whenEnabled_true (t : State) : whenEnabled true t = .next t := rfl

/-! ### The sub-procedures -/

/-- What ArmDma leaves (41_receive_dma.md R165). -/
theorem Channel.armDma_eq (ch : Channel) (cap : Half) :
    ch.armDma cap = { ch with ftf := false, derr := false, cnt := cap, den := true } := rfl

/-- What ArmTimer leaves (42_frame_timer.md R182). -/
theorem Channel.armTimer_eq (ch : Channel) : ch.armTimer = { ch with tcnt := 0#16, ten := true } := rfl

/-- What DisarmTimer leaves (42_frame_timer.md R183). -/
theorem Channel.disarmTimer_eq (ch : Channel) :
    ch.disarmTimer = { ch with ten := false, tcnt := 0#16, upif := false } := rfl

/-- PRST leaves the channel at power-on (44_host_interface.md R212). -/
@[simp] theorem Channel.afterPrst_eq (ch : Channel) : ch.afterPrst = Channel.powerOn := rfl

/-! ### Lengths -/

/-- While armed, the raw length is `C - cnt` with nothing wrapping (00_scope.md R10). -/
theorem Channel.rawLen_toNat {ch : Channel} {cap : Half} (h : ch.cnt.toNat ≤ cap.toNat) :
    (ch.rawLen cap).toNat = cap.toNat - ch.cnt.toNat := by
  unfold Channel.rawLen
  exact BitVec.toNat_sub_of_le (by simpa [BitVec.le_def] using h)

/-- The raw length is 0 exactly when the count is full. -/
theorem Channel.rawLen_eq_zero {ch : Channel} {cap : Half} : ch.rawLen cap = 0#16 ↔ ch.cnt = cap := by
  unfold Channel.rawLen
  constructor
  · intro h; bv_omega
  · intro h; simp [h]

/-- The detector's length: a full ring reads as C, else it is the raw length (43_frame_detector.md R194). -/
theorem Channel.frameLen_toNat {ch : Channel} {cap : Half} (h : ch.cnt.toNat ≤ cap.toNat) :
    (ch.frameLen cap).toNat =
      if ch.cnt = cap ∧ ch.ftf = true then cap.toNat else cap.toNat - ch.cnt.toNat := by
  unfold Channel.frameLen
  simp only [Channel.rawLen_eq_zero]
  split
  · rfl
  · exact Channel.rawLen_toNat h

/-- The detector's length never exceeds C. -/
theorem Channel.frameLen_le {ch : Channel} {cap : Half} (h : ch.cnt.toNat ≤ cap.toNat) :
    (ch.frameLen cap).toNat ≤ cap.toNat := by
  rw [Channel.frameLen_toNat h]
  split <;> omega

/-- The detector's length is 0 exactly for a spurious idle: count full and FTF clear (43_frame_detector.md R191). -/
theorem Channel.frameLen_eq_zero {ch : Channel} {cap : Half} (hc : cap ≠ 0#16) :
    ch.frameLen cap = 0#16 ↔ ch.cnt = cap ∧ ch.ftf = false := by
  unfold Channel.frameLen
  simp only [Channel.rawLen_eq_zero]
  split
  · rename_i h; simp [hc, h.2]
  · rename_i h
    rw [Channel.rawLen_eq_zero]
    cases hf : ch.ftf <;> simp_all

/-- The detector's length depends on the count and FTF only. -/
theorem Channel.frameLen_congr {x y : Channel} {cap : Half} (h1 : x.cnt = y.cnt) (h2 : x.ftf = y.ftf) :
    x.frameLen cap = y.frameLen cap := by
  unfold Channel.frameLen Channel.rawLen
  rw [h1, h2]

/-! ### Addresses -/

/-- What a well-formed configuration says of one channel (00_scope.md R7). -/
theorem Config.wf_chan {cfg : Config} (h : cfg.wf = true) (c : Chan) :
    1 ≤ (cfg.ch.get c).cap.toNat ∧ 1 ≤ (cfg.ch.get c).tper.toNat ∧ (cfg.ch.get c).tper.toNat ≤ 65536 ∧
      cfg.bufHi c < 2 ^ 32 ∧ (cfg.bufHi c < cfg.winLo ∨ cfg.winHi < cfg.bufLo c) := by
  simp only [Config.wf, Config.chanWf, Config.apart, Bool.and_eq_true, Bool.or_eq_true, decide_eq_true_eq] at h
  cases c <;> (refine ⟨?_, ?_, ?_, ?_, ?_⟩ <;> omega)

/-- The buffers of a well-formed configuration share no byte (20_memory.md R71). -/
theorem Config.wf_apart {cfg : Config} (h : cfg.wf = true) {c d : Chan} (hne : c ≠ d) :
    cfg.bufHi c < cfg.bufLo d ∨ cfg.bufHi d < cfg.bufLo c := by
  simp only [Config.wf, Config.apart, Bool.and_eq_true, Bool.or_eq_true, decide_eq_true_eq] at h
  cases c <;> cases d <;> first | exact absurd rfl hne | omega

/-- In a well-formed configuration a buffer index within the buffer does not wrap (20_memory.md R71). -/
theorem State.bufAddr_toNat {s : State} (h : s.cfg.wf = true) (c : Chan) {idx : Half}
    (hi : idx.toNat ≤ (s.cap c).toNat) : (s.bufAddr c idx).toNat = s.cfg.bufLo c + idx.toNat := by
  have hw := (Config.wf_chan h c).2.2.2.1
  simp only [Config.bufHi, Config.bufLo, State.cap] at hw hi ⊢
  simp only [State.bufAddr, State.buf, BitVec.toNat_add, BitVec.toNat_setWidth]
  have : idx.toNat < 2 ^ 16 := idx.isLt
  omega

/-- The cell of a stored byte is the buffer's own (20_memory.md R71, R76). -/
theorem State.bufAddr_owned {s : State} (h : s.cfg.wf = true) (c : Chan) {idx : Half}
    (hi : idx.toNat ≤ (s.cap c).toNat) :
    s.cfg.bufLo c ≤ (s.bufAddr c idx).toNat ∧ (s.bufAddr c idx).toNat ≤ s.cfg.bufHi c := by
  rw [State.bufAddr_toNat h c hi]
  simp only [Config.bufHi, State.cap] at hi ⊢
  omega

/-! ### Buffer accesses -/

/-- A region check that passes names a buffer that holds every byte of the access (30_encoding.md R105). -/
theorem findBuf_some {cfg : Config} {a : Word} {n : Nat} {c : Chan} (h : findBuf cfg a n = some c) :
    cfg.bufLo c ≤ a.toNat ∧ a.toNat + n ≤ cfg.bufHi c + 1 := by
  unfold findBuf at h
  split at h
  · cases h; simp_all [inBuf]
  · split at h
    · cases h; simp_all [inBuf]
    · split at h
      · cases h; simp_all [inBuf]
      · cases h

/-- A region check fails exactly when no buffer holds the access. -/
theorem findBuf_eq_none {cfg : Config} {a : Word} {n : Nat} :
    findBuf cfg a n = none ↔ ∀ c, inBuf cfg c a n = false := by
  unfold findBuf
  constructor
  · intro h c
    cases h0 : inBuf cfg .c0 a n <;> cases h1 : inBuf cfg .c1 a n <;> cases h2 : inBuf cfg .c2 a n <;>
      cases c <;> simp_all
  · intro h
    simp [h .c0, h .c1, h .c2]

/-- What a host read can do: be refused, fault, or return the bytes (44_host_interface.md R227). -/
theorem hostLoad_cases (z : Size) (a : Word) (s : State) :
    (findBuf s.cfg a z.bytes = none ∧ hostLoad z a s = refuse .outside s) ∨
    ((∃ c, findBuf s.cfg a z.bytes = some c) ∧ a.toNat % z.bytes ≠ 0 ∧ hostLoad z a s = raiseFault .bufAlign s) ∨
    ((∃ c, findBuf s.cfg a z.bytes = some c) ∧ a.toNat % z.bytes = 0 ∧
      hostLoad z a s = s.returns (BitVec.ofNat 32 (s.mem.readLe a.toNat z.bytes))) := by
  unfold hostLoad
  cases h : findBuf s.cfg a z.bytes with
  | none => simp
  | some c => by_cases hm : a.toNat % z.bytes = 0 <;> simp [hm]

/-- What a host write can do: be refused or fault (44_host_interface.md R228). -/
theorem hostStore_cases (z : Size) (a : Word) (s : State) :
    (findBuf s.cfg a z.bytes = none ∧ hostStore z a s = refuse .outside s) ∨
    ((∃ c, findBuf s.cfg a z.bytes = some c) ∧ hostStore z a s = raiseFault .bufWrite s) := by
  unfold hostStore
  cases h : findBuf s.cfg a z.bytes with
  | none => simp
  | some c => simp

/-! ### The line -/

/-- The byte that survives an overrun is the old one or the new one (41_receive_dma.md R161). -/
theorem drawByte_cases (c : Chan) (n : Nat) (old new : Byte) :
    drawByte c n old new = old ∨ drawByte c n old new = new := by
  unfold drawByte; split <;> simp

/-- What an arriving byte can do: be dropped, be held, or overrun (41_receive_dma.md R161). -/
theorem lineByte_cases (c : Chan) (b : Byte) (s : State) :
    ((s.chan c).inited = false ∧ lineByte c b s = s) ∨
    ((s.chan c).inited = true ∧ (s.chan c).hold = none ∧
      lineByte c b s = s.setChan c { s.chan c with hold := some b, idleSeen := true }) ∨
    (∃ old, (s.chan c).inited = true ∧ (s.chan c).hold = some old ∧
      lineByte c b s = (s.setChan c
        { s.chan c with orerr := true, idleSeen := true,
                        hold := some (drawByte c (s.draws.get c) old b) }).countDraw c) := by
  unfold lineByte
  cases hi : (s.chan c).inited
  · simp
  · cases hh : (s.chan c).hold <;> simp

end Sys2Proof.Machine
end

