-- ==== Sys2Proof/Laws/Exec.lean ====
section
/-! SUPPORT. Laws/Exec.lean: once and for all, what an operation that answers a next state did. -/

namespace Sys2Proof.Machine

/-- The effects an operation can have, with what enabled them. -/
inductive Effect : Instr → State → State → Prop where
  | fault {i s} (code : FaultCode) (h : i.agent = some .host) : Effect i s (raiseFault code s)
  | refused {i s} (why : RefusalReason) (h : i.agent = none ∨ i.agent = some .host) : Effect i s (refuse why s)
  | value {i s} (v : Word) (h : i.agent = some .host) : Effect i s (s.returns v)
  | init {s} (c : Chan) (h : (s.chan c).inited = false) :
      Effect (.cmdInit c) s (s.setChan c ((s.chan c).afterInit (s.cap c))).done
  | reset {s} (c : Chan) (h : (s.chan c).inited = true) :
      Effect (.cmdReset c) s (s.setChan c ((s.chan c).afterReset (s.cap c))).done
  | prst {s} (c : Chan) : Effect (.cmdPrst c) s (s.setChan c Channel.powerOn).done
  | baud {s} (c : Chan) (data : Word) :
      Effect (.wrChBaud c data) s (s.setChan c { s.chan c with baud := data }).done
  | ttick {s} (h : s.tb.en = true) : Effect .evTtick s (s.setTb s.tb.ticked).done
  | ctrl {s} (data : Word) : Effect (.wrTbCtrl data) s (s.setTb (s.tb.afterCtrl data)).done
  | load {s} (data : Word) : Effect (.wrTbLoad data) s (s.setTb { s.tb with load := tbField s.cfg data }).done
  | cal {s} (data : Word) : Effect (.wrTbCal data) s (s.setTb { s.tb with cal := data }).done
  | quant {s} (data : Word) : Effect (.wrTbQuant data) s (s.setTb { s.tb with quant := data }).done
  | byteDropped {s} (c : Chan) (b : Byte) (h : (s.chan c).inited = false) : Effect (.evByte c b) s s.done
  | byteHeld {s} (c : Chan) (b : Byte) (hi : (s.chan c).inited = true) (h : (s.chan c).hold = none) :
      Effect (.evByte c b) s (s.setChan c { s.chan c with hold := some b, idleSeen := true }).done
  | byteOverrun {s} (c : Chan) (b old : Byte) (hi : (s.chan c).inited = true) (h : (s.chan c).hold = some old) :
      Effect (.evByte c b) s
        ((s.setChan c
          { s.chan c with orerr := true, idleSeen := true,
                          hold := some (drawByte c (s.draws.get c) old b) }).countDraw c).done
  | idleDropped {s} (c : Chan) (h : (s.chan c).inited = false) : Effect (.evIdle c) s s.done
  | idle {s} (c : Chan) (h : (s.chan c).inited = true) :
      Effect (.evIdle c) s (s.setChan c { s.chan c with idlef := true, idleSeen := false }).done
  | derr {s} (c : Chan) (h : (s.chan c).den = true) :
      Effect (.evDerr c) s
        (s.setChan c { s.chan c with derr := true, den := (s.chan c).den && !s.cfg.dmaErrDisables }).done
  | dxfer {s} (c : Chan) (b : Byte) (hd : (s.chan c).den = true) (hh : (s.chan c).hold = some b) :
      Effect (.evDxfer c) s
        ((s.storeByte (s.dmaAddr c) b).setChan c ((s.chan c).transferred (s.cap c))).done
  | ftick {s} (c : Chan) (h : (s.chan c).ten = true) :
      Effect (.evFtick c) s (s.setChan c ((s.chan c).timerTicked (s.tper c))).done
  | didle {s} (c : Chan) (h : (s.chan c).idlef = true) :
      Effect (.evDidle c) s (s.setChan c ((s.chan c).idleAction (s.cap c))).done
  | dexp {s} (c : Chan) (h : (s.chan c).upif = true) :
      Effect (.evDexp c) s
        ((s.storeByte (s.sentinelAddr c) sentinel).setChan c ((s.chan c).expiryAction (s.cap c))).done

theorem effect_of_hostLoad {i : Instr} (z : Size) (a : Word) (s : State) (h : i.agent = some .host) :
    Effect i s (hostLoad z a s) := by
  rcases hostLoad_cases z a s with ⟨_, e⟩ | ⟨_, _, e⟩ | ⟨_, _, e⟩ <;> rw [e]
  · exact .refused _ (.inr h)
  · exact .fault _ h
  · exact .value _ h

theorem effect_of_hostStore {i : Instr} (z : Size) (a : Word) (s : State) (h : i.agent = some .host) :
    Effect i s (hostStore z a s) := by
  rcases hostStore_cases z a s with ⟨_, e⟩ | ⟨_, e⟩ <;> rw [e]
  · exact .refused _ (.inr h)
  · exact .fault _ h

theorem effect_of_evByte (c : Chan) (b : Byte) (s : State) : Effect (.evByte c b) s (lineByte c b s).done := by
  rcases lineByte_cases c b s with ⟨hi, e⟩ | ⟨hi, hh, e⟩ | ⟨old, hi, hh, e⟩ <;> rw [e]
  · exact .byteDropped c b hi
  · exact .byteHeld c b hi hh
  · exact .byteOverrun c b old hi hh

/-- An operation that answers a next state had one of the effects above. -/
theorem exec_effect {i : Instr} {s t : State} (h : exec i s = .next t) : Effect i s t := by
  cases i
  case cmdInit c =>
    simp only [exec, execCmdInit, Host.Outcome.next.injEq] at h
    subst h
    split
    · exact .fault _ rfl
    · rename_i hi; exact .init c (by simpa using hi)
  case cmdReset c =>
    simp only [exec, execCmdReset, Host.Outcome.next.injEq] at h
    subst h
    split
    · exact .reset c ‹_›
    · exact .fault _ rfl
  case cmdPrst c =>
    simp only [exec, execCmdPrst, Host.Outcome.next.injEq] at h
    subst h; exact .prst c
  case wrChBaud c data => simp only [exec, execWrChBaud, Host.Outcome.next.injEq] at h; subst h; exact .baud c data
  case evTtick =>
    simp only [exec, execEvTtick, whenEnabled_eq_next] at h
    obtain ⟨he, rfl⟩ := h; exact .ttick he
  case wrTbCtrl data => simp only [exec, execWrTbCtrl, Host.Outcome.next.injEq] at h; subst h; exact .ctrl data
  case wrTbLoad data => simp only [exec, execWrTbLoad, Host.Outcome.next.injEq] at h; subst h; exact .load data
  case wrTbCal data => simp only [exec, execWrTbCal, Host.Outcome.next.injEq] at h; subst h; exact .cal data
  case wrTbQuant data => simp only [exec, execWrTbQuant, Host.Outcome.next.injEq] at h; subst h; exact .quant data
  case evByte c b => simp only [exec, execEvByte, Host.Outcome.next.injEq] at h; subst h; exact effect_of_evByte c b s
  case evIdle c =>
    simp only [exec, execEvIdle, whenEnabled_eq_next] at h
    obtain ⟨-, rfl⟩ := h
    split
    · rename_i hi; exact .idle c hi
    · rename_i hi; exact .idleDropped c (by simpa using hi)
  case evDerr c =>
    simp only [exec, execEvDerr, whenEnabled_eq_next] at h
    obtain ⟨he, rfl⟩ := h; exact .derr c he
  case evDxfer c =>
    simp only [exec, execEvDxfer] at h
    split at h
    · rename_i b hb
      rw [whenEnabled_eq_next] at h
      obtain ⟨he, rfl⟩ := h; exact .dxfer c b he hb
    · cases h
  case evFtick c =>
    simp only [exec, execEvFtick, whenEnabled_eq_next] at h
    obtain ⟨he, rfl⟩ := h; exact .ftick c he
  case evDidle c =>
    simp only [exec, execEvDidle, whenEnabled_eq_next] at h
    obtain ⟨he, rfl⟩ := h; exact .didle c he
  case evDexp c =>
    simp only [exec, execEvDexp, whenEnabled_eq_next] at h
    obtain ⟨he, rfl⟩ := h; exact .dexp c he
  case ldB ch a => simp only [exec, execLdB, Host.Outcome.next.injEq] at h; subst h; exact effect_of_hostLoad _ a s rfl
  case ldH ch a => simp only [exec, execLdH, Host.Outcome.next.injEq] at h; subst h; exact effect_of_hostLoad _ a s rfl
  case ldW ch a => simp only [exec, execLdW, Host.Outcome.next.injEq] at h; subst h; exact effect_of_hostLoad _ a s rfl
  case stB ch a v => simp only [exec, execStB, Host.Outcome.next.injEq] at h; subst h; exact effect_of_hostStore _ a s rfl
  case stH ch a v => simp only [exec, execStH, Host.Outcome.next.injEq] at h; subst h; exact effect_of_hostStore _ a s rfl
  case stW ch a v => simp only [exec, execStW, Host.Outcome.next.injEq] at h; subst h; exact effect_of_hostStore _ a s rfl
  all_goals
    (injection h with h; subst h
     first
       | exact .fault _ rfl
       | exact .refused _ (.inl rfl)
       | exact .value _ rfl)

/-- A run of operations performed after another is the run of both. -/
theorem execAll_append (xs ys : List Instr) (s : State) :
    execAll (xs ++ ys) s =
      match execAll xs s with
      | .next t => execAll ys t
      | .fault r => .fault r
      | .refused r => .refused r := by
  induction xs generalizing s with
  | nil => rfl
  | cons i rest ih =>
    simp only [List.cons_append, execAll]
    cases exec i s with
    | next t => exact ih t
    | fault r => rfl
    | refused r => rfl

/-- The first operation of a run that ends in a next state answered a next state. -/
theorem execAll_cons_next {i : Instr} {is : List Instr} {s t : State} (h : execAll (i :: is) s = .next t) :
    ∃ u, exec i s = .next u ∧ execAll is u = .next t := by
  simp only [execAll] at h
  cases hu : exec i s with
  | next u => rw [hu] at h; exact ⟨u, rfl, h⟩
  | fault r => rw [hu] at h; cases h
  | refused r => rw [hu] at h; cases h

/-- A property that every operation of a run keeps holds at its end. -/
theorem execAll_keeps {P : State → Prop} {ok : Instr → Prop} {is : List Instr} {s t : State}
    (hstep : ∀ i s t, ok i → P s → exec i s = .next t → P t) (hok : ∀ i ∈ is, ok i) (hs : P s)
    (h : execAll is s = .next t) : P t := by
  induction is generalizing s with
  | nil => simp only [execAll, Host.Outcome.next.injEq] at h; subst h; exact hs
  | cons i rest ih =>
    obtain ⟨u, hu, hr⟩ := execAll_cons_next h
    exact ih (fun j hj => hok j (by simp [hj])) (hstep i s u (hok i (by simp)) hs hu) hr

end Sys2Proof.Machine
end

