-- ==== Sys2Proof/Laws/Run.lean ====
section
/-! SUPPORT. Laws/Run.lean: launching, one step's schedule, and what a run of the host program is made of. -/

namespace Sys2Proof.Machine

/-! ### Launching (60_exceptions.md R304) -/

theorem Config.standIn_wf : Config.standIn.wf = true := by decide

/-- No ill-formed configuration is launched. -/
theorem Config.launched_wf : Config.launched.wf = true := by
  unfold Config.launched
  split
  · assumption
  · exact Config.standIn_wf

/-- Every well-formed platform is launched as it is. -/
theorem Config.launched_of_wf (h : Config.platform.wf = true) : Config.launched = Config.platform := by
  simp [Config.launched, h]

/-- A launch answers the power-on state, and only of a well-formed configuration. -/
theorem State.launch_eq_some {cfg : Config} {s : State} :
    State.launch cfg = some s ↔ cfg.wf = true ∧ State.powerOn cfg = s := by
  unfold State.launch
  split <;> simp_all

/-- Reset is a launched state. -/
theorem State.launch_launched : State.launch Config.launched = some State.reset := by
  simp [State.launch, Config.launched_wf, State.reset]

/-! ### The schedule -/

/-- No operation reads or writes what is scheduled after it: it leaves the schedule as it is. -/
theorem exec_sched {i : Instr} {s t : State} (h : exec i s = .next t) : t.sched = s.sched := by
  cases exec_effect h <;> simp

/-- A step takes one request from the schedule. -/
theorem step_sched {s t : State} {r : Request} {rest : List Request} (hs : s.sched = r :: rest)
    (h : step s = .next t) : t.sched = rest := by
  unfold step at h
  rw [hs] at h
  simp only at h
  split at h
  · exact exec_sched h
  · cases h; rfl
  · cases h; rfl

/-! ### What the host is told (60_exceptions.md R300, R301) -/

@[simp] theorem hostSees_returns (seen : List Word) (s : State) (v : Word) : hostSees seen (s.returns v) = v := rfl
@[simp] theorem hostSees_done (seen : List Word) (s : State) : hostSees seen s.done = Config.unreturned seen := rfl
@[simp] theorem hostSees_raiseFault (seen : List Word) (s : State) (code : FaultCode) :
    hostSees seen (raiseFault code s) = Config.unreturned seen := rfl
@[simp] theorem hostSees_refuse (seen : List Word) (s : State) (why : RefusalReason) :
    hostSees seen (refuse why s) = Config.unreturned seen := rfl

/-- A word other than the free one was returned to the host by a read. -/
theorem returned_of_hostSees_ne {seen : List Word} {u : State} (h : hostSees seen u ≠ Config.unreturned seen) :
    u.report = .value (hostSees seen u) := by
  unfold hostSees at h ⊢
  split <;> simp_all

/-- The host is not told of a fault: after a command that faulted, with whatever code, its program goes on exactly as
after one that completed. -/
theorem host_not_told_of_fault (prog : HostProgram) (seen : List Word) (s t : State) (code : FaultCode) :
    prog (seen ++ [hostSees seen (raiseFault code s)]) = prog (seen ++ [hostSees seen t.done]) := by
  simp

/-! ### Runs (70_reset_and_hazards.md R357) -/

/-- All that a run can do: its first step answers a next state, and either an event ran and the run goes on, or the
host performed the operation its program asked for, the last one exactly at the end of the schedule. -/
theorem hostRun_cases {prog : HostProgram} {seen : List Word} {rs : List Request} {s t : State}
    (h : hostRun prog seen rs s = some t) :
    ∃ r rest u, rs = r :: rest ∧ step s = .next u ∧
      ((isEventRequest r = true ∧ hostRun prog seen rest u = some t) ∨
       (isEventRequest r = false ∧ prog seen = some r ∧ prog (seen ++ [hostSees seen u]) = none ∧ rest = [] ∧ u = t) ∨
       (isEventRequest r = false ∧ prog seen = some r ∧ prog (seen ++ [hostSees seen u]) ≠ none ∧
         hostRun prog (seen ++ [hostSees seen u]) rest u = some t)) := by
  cases rs with
  | nil => simp [hostRun] at h
  | cons r rest =>
    simp only [hostRun] at h
    cases hu : step s with
    | fault x => simp [hu] at h
    | refused x => simp [hu] at h
    | next u =>
      simp only [hu] at h
      refine ⟨r, rest, u, rfl, rfl, ?_⟩
      split at h
      · exact .inl ⟨‹_›, h⟩
      · split at h
        · split at h
          · split at h
            · exact .inr (.inl ⟨by simp_all, ‹_›, ‹_›, ‹_›, by simpa using h⟩)
            · cases h
          · exact .inr (.inr ⟨by simp_all, ‹_›, ‹_›, h⟩)
        · cases h

/-- A property that every step keeps holds where a run ends. -/
theorem hostRun_keeps {P : State → Prop} (hstep : ∀ s t, P s → step s = .next t → P t) {prog : HostProgram}
    {seen : List Word} {rs : List Request} {s t : State} (hs : P s) (h : hostRun prog seen rs s = some t) : P t := by
  induction rs generalizing seen s with
  | nil => simp [hostRun] at h
  | cons r rest ih =>
    obtain ⟨_, _, u, he, hu, hc⟩ := hostRun_cases h
    cases he
    have hp := hstep s u hs hu
    obtain ⟨_, hr⟩ | ⟨_, _, _, _, rfl⟩ | ⟨_, _, _, hr⟩ := hc
    · exact ih hp hr
    · exact hp
    · exact ih hp hr

/-- A run is the machine's own run over its schedule. -/
theorem hostRun_core_run {prog : HostProgram} {seen : List Word} {rs : List Request} {s t : State}
    (hs : s.sched = rs) (h : hostRun prog seen rs s = some t) :
    Host.Core.run Sys2Proof.core rs.length s = .next t ∧ t.sched = [] := by
  induction rs generalizing seen s with
  | nil => simp [hostRun] at h
  | cons r rest ih =>
    obtain ⟨_, _, u, he, hu, hc⟩ := hostRun_cases h
    cases he
    have hn : Host.Core.run Sys2Proof.core (rest.length + 1) s = Host.Core.run Sys2Proof.core rest.length u := by
      simp only [Host.Core.run, show Sys2Proof.core.step s = .next u from hu]
    have hv := step_sched hs hu
    rw [List.length_cons, hn]
    obtain ⟨_, hr⟩ | ⟨_, _, _, rfl, rfl⟩ | ⟨_, _, _, hr⟩ := hc
    · exact ih hv hr
    · exact ⟨rfl, hv⟩
    · exact ih hv hr

end Sys2Proof.Machine
end

