-- ==== Sys2Proof/Tests/Slice0.lean ====
section
/-! SUPPORT. Tests/Slice0.lean: the model's own tests, their expected values taken from spec/95_test_vectors.md and
from the spec's encodings, and a witness for every statement that has hypotheses. -/

open Sys2Proof Sys2Proof.Machine

namespace Sys2Proof.Tests

/-! ### Small states -/

/-- The configuration CfgV of 95_test_vectors.md section 0, with the two switches open. -/
def cfgWith (policy : IdlePolicy) (disables : Bool) : Config where
  ch := ⟨⟨4#16, 0x20000000#32, 3#17, 0, 0, 0⟩, ⟨1#16, 0x20000100#32, 1#17, 1, 1, 1⟩,
    ⟨8#16, 0x20000200#32, 2#17, 2, 2, 2⟩⟩
  blkBase := 0x40000000#32
  tbw := 8
  idlePolicy := policy
  dmaErrDisables := disables
  fTb0 := 1
  fTb1 := 1

/-- CfgV. -/
def cfgV : Config := cfgWith .loose false

/-- Power-on under CfgV. -/
def sOff : State := State.powerOn cfgV

/-- The channel right after INIT. -/
def armed (cap : Half) : Channel := { Channel.powerOn with inited := true, den := true, cnt := cap }

/-- Every channel right after INIT, under CfgV. -/
def sOn : State := { sOff with ch := ⟨armed 4#16, armed 1#16, armed 8#16⟩ }

/-- `sOn` with channel 0 replaced. -/
def on0 (x : Channel) : State := sOn.setChan .c0 x

/-- `sOn` with channel 1 (C = 1, T = 1) replaced. -/
def on1 (x : Channel) : State := sOn.setChan .c1 x

/-- Channel 0 with one byte in the ring and its timer armed. -/
def timing : Channel := { armed 4#16 with cnt := 3#16, len := 1#16, ten := true }

/-- Channel 0 with one byte in the ring and its timer expired. -/
def expired : Channel := { armed 4#16 with cnt := 3#16, len := 1#16, upif := true }

/-- Power-on with the time base set. -/
def sTb (en : Bool) (load val : Word) : State := { sOff with tb := { TimeBase.powerOn with en := en, load := load, val := val } }

/-- `sOn` with the bytes 11 22 33 44 in channel 0's ring. -/
def sMem : State :=
  { sOn with mem := [(0x20000000, 0x11#8), (0x20000001, 0x22#8), (0x20000002, 0x33#8), (0x20000003, 0x44#8)] }

/-- The operation answers a next state of which `p` holds. -/
def after (i : Instr) (s : State) (p : State → Bool) : Bool :=
  match exec i s with
  | .next t => p t
  | .fault _ => false
  | .refused _ => false

/-- The operation has no step. -/
def noStep (i : Instr) (s : State) : Bool :=
  match exec i s with
  | .fault .notEnabled => true
  | _ => false

/-- The step of the state with one request scheduled answers a next state of which `p` holds. -/
def stepped (r : Request) (s : State) (p : State → Bool) : Bool :=
  match step (s.withSched [r]) with
  | .next t => p t
  | .fault _ => false
  | .refused _ => false

/-- The operation answers a next state and reports `r`. -/
def reports (i : Instr) (s : State) (r : Report) : Bool := after i s (fun t => t.report == r)

/-! ### WellFormed smoke: each check refuses an ill-formed term -/

theorem test_wf_cmdBad : (Instr.cmdBad .c0 1#32).wellFormed = false ∧ (Instr.cmdBad .c0 2#32).wellFormed = false ∧
    (Instr.cmdBad .c0 3#32).wellFormed = false := by decide
theorem test_wf_wrCh : (Instr.wrChReserved10to11 .c0 9#4 0#32).wellFormed = false ∧
    (Instr.wrChReserved10to11 .c0 12#4 0#32).wellFormed = false ∧
    (Instr.wrChReserved12to15 .c0 11#4 0#32).wellFormed = false := by decide
theorem test_wf_rdCh : (Instr.rdChReserved10to11 .c0 9#4).wellFormed = false ∧
    (Instr.rdChReserved10to11 .c0 12#4).wellFormed = false ∧
    (Instr.rdChReserved12to15 .c0 11#4).wellFormed = false := by decide
theorem test_wf_wrTb : (Instr.wrTbReserved6to7 5#4 0#32).wellFormed = false ∧
    (Instr.wrTbReserved6to7 8#4 0#32).wellFormed = false ∧ (Instr.wrTbReserved8to15 7#4 0#32).wellFormed = false := by
  decide
theorem test_wf_rdTb : (Instr.rdTbReserved6to7 5#4).wellFormed = false ∧
    (Instr.rdTbReserved6to7 8#4).wellFormed = false ∧ (Instr.rdTbReserved8to15 7#4).wellFormed = false := by decide
theorem test_cfgV_wf : cfgV.wf = true := by decide
theorem test_cfg_overlap_refused :
    { cfgV with blkBase := 0x20000000#32 }.wf = false ∧ { cfgV with tbw := 33 }.wf = false ∧
    { cfgV with fTb0 := 0 }.wf = false := by decide

/-! ### Decoding: words written out from 30_encoding.md R101, R104, R107, R114 -/

theorem test_decode_refused_class : decode ⟨0x6F00#16, 0#32, 0#32⟩ = .refuseClass6 3#2 3#2 0x00#8 ∧
    decode ⟨0x7FFF#16, 0#32, 0#32⟩ = .refuseClass7 3#2 3#2 0xFF#8 := by decide
theorem test_decode_refused_channel : decode ⟨0x0E00#16, 0#32, 0#32⟩ = .refuseCh3Class0 2#2 0x00#8 ∧
    decode ⟨0x1C01#16, 0#32, 0#32⟩ = .refuseCh3Class1 0#2 0x01#8 ∧
    decode ⟨0x8C41#16, 0#32, 0#32⟩ = .refuseCh3Class8 0#2 0x41#8 ∧
    decode ⟨0x9C00#16, 0#32, 0#32⟩ = .refuseCh3Class9 0#2 0x00#8 ∧
    decode ⟨0xAC00#16, 0#32, 0#32⟩ = .refuseCh3ClassA 0#2 0x00#8 ∧
    decode ⟨0xBC00#16, 0#32, 0#32⟩ = .refuseCh3ClassB 0#2 0x00#8 ∧
    decode ⟨0xCC00#16, 0#32, 0#32⟩ = .refuseCh3ClassC 0#2 0x00#8 ∧
    decode ⟨0xDC00#16, 0#32, 0#32⟩ = .refuseCh3ClassD 0#2 0x00#8 ∧
    decode ⟨0xFC00#16, 0#32, 0#32⟩ = .refuseCh3ClassF 0#2 0x00#8 := by decide
theorem test_decode_refused_size : decode ⟨0x0300#16, 0#32, 0#32⟩ = .refuseSz3Class0 .c0 0x00#8 ∧
    decode ⟨0x1700#16, 0#32, 0#32⟩ = .refuseSz3Class1 .c1 0x00#8 ∧
    decode ⟨0x2300#16, 0#32, 0#32⟩ = .refuseSz3Class2 0#2 0x00#8 ∧
    decode ⟨0x3F00#16, 0#32, 0#32⟩ = .refuseSz3Class3 3#2 0x00#8 ∧
    decode ⟨0x4300#16, 0#32, 0#32⟩ = .refuseSz3Class4 0#2 0x00#8 ∧
    decode ⟨0x5300#16, 0#32, 0#32⟩ = .refuseSz3Class5 0#2 0x00#8 := by decide
theorem test_decode_narrow : decode ⟨0x0009#16, 7#32, 0#32⟩ = .wrChSz0 .c0 9#4 7#32 ∧
    decode ⟨0x0100#16, 1#32, 0#32⟩ = .wrChSz1 .c0 0#4 1#32 ∧ decode ⟨0x1802#16, 0#32, 0#32⟩ = .rdChSz0 .c2 2#4 ∧
    decode ⟨0x1101#16, 0#32, 0#32⟩ = .rdChSz1 .c0 1#4 ∧ decode ⟨0x2003#16, 5#32, 0#32⟩ = .wrTbSz0 3#4 5#32 ∧
    decode ⟨0x2104#16, 5#32, 0#32⟩ = .wrTbSz1 4#4 5#32 ∧ decode ⟨0x3001#16, 0#32, 0#32⟩ = .rdTbSz0 1#4 ∧
    decode ⟨0x3102#16, 0#32, 0#32⟩ = .rdTbSz1 2#4 := by decide
theorem test_decode_commands : decode ⟨0x0200#16, 1#32, 0#32⟩ = .cmdInit .c0 ∧
    decode ⟨0x0600#16, 2#32, 0#32⟩ = .cmdReset .c1 ∧ decode ⟨0x0A00#16, 3#32, 0#32⟩ = .cmdPrst .c2 ∧
    decode ⟨0x0200#16, 0#32, 0#32⟩ = .cmdBad .c0 0#32 ∧ decode ⟨0x0200#16, 4#32, 0#32⟩ = .cmdBad .c0 4#32 := by decide
theorem test_decode_wrCh : decode ⟨0x0204#16, 0x2580#32, 0#32⟩ = .wrChBaud .c0 0x2580#32 ∧
    decode ⟨0x0201#16, 5#32, 0#32⟩ = .wrChStat .c0 5#32 ∧ decode ⟨0x0602#16, 5#32, 0#32⟩ = .wrChLen .c1 5#32 ∧
    decode ⟨0x0203#16, 5#32, 0#32⟩ = .wrChCnt .c0 5#32 ∧ decode ⟨0x0205#16, 5#32, 0#32⟩ = .wrChTcnt .c0 5#32 ∧
    decode ⟨0x0206#16, 5#32, 0#32⟩ = .wrChCap .c0 5#32 ∧ decode ⟨0x0207#16, 5#32, 0#32⟩ = .wrChBuf .c0 5#32 ∧
    decode ⟨0x0208#16, 5#32, 0#32⟩ = .wrChTper .c0 5#32 ∧ decode ⟨0x0209#16, 5#32, 0#32⟩ = .wrChReserved9 .c0 5#32 ∧
    decode ⟨0x020B#16, 5#32, 0#32⟩ = .wrChReserved10to11 .c0 11#4 5#32 ∧
    decode ⟨0x020D#16, 5#32, 0#32⟩ = .wrChReserved12to15 .c0 13#4 5#32 := by decide
theorem test_decode_rdCh : decode ⟨0x1200#16, 0#32, 0#32⟩ = .rdChCmd .c0 ∧
    decode ⟨0x12F1#16, 0#32, 0#32⟩ = .rdChStat .c0 ∧ decode ⟨0x1A02#16, 0#32, 0#32⟩ = .rdChLen .c2 ∧
    decode ⟨0x1203#16, 0#32, 0#32⟩ = .rdChCnt .c0 ∧ decode ⟨0x1604#16, 0#32, 0#32⟩ = .rdChBaud .c1 ∧
    decode ⟨0x1205#16, 0#32, 0#32⟩ = .rdChTcnt .c0 ∧ decode ⟨0x1206#16, 0#32, 0#32⟩ = .rdChCap .c0 ∧
    decode ⟨0x1207#16, 0#32, 0#32⟩ = .rdChBuf .c0 ∧ decode ⟨0x1608#16, 0#32, 0#32⟩ = .rdChTper .c1 ∧
    decode ⟨0x1209#16, 0#32, 0#32⟩ = .rdChReserved9 .c0 ∧ decode ⟨0x120A#16, 0#32, 0#32⟩ = .rdChReserved10to11 .c0 10#4 ∧
    decode ⟨0x120F#16, 0#32, 0#32⟩ = .rdChReserved12to15 .c0 15#4 := by decide
theorem test_decode_wrTb : decode ⟨0x2200#16, 3#32, 0#32⟩ = .wrTbCtrl 3#32 ∧
    decode ⟨0x2201#16, 3#32, 0#32⟩ = .wrTbLoad 3#32 ∧ decode ⟨0x2E02#16, 3#32, 0#32⟩ = .wrTbVal 3#32 ∧
    decode ⟨0x2203#16, 3#32, 0#32⟩ = .wrTbCal 3#32 ∧ decode ⟨0x2204#16, 3#32, 0#32⟩ = .wrTbQuant 3#32 ∧
    decode ⟨0x2205#16, 3#32, 0#32⟩ = .wrTbReserved5 3#32 ∧ decode ⟨0x2206#16, 3#32, 0#32⟩ = .wrTbReserved6to7 6#4 3#32 ∧
    decode ⟨0x220F#16, 3#32, 0#32⟩ = .wrTbReserved8to15 15#4 3#32 := by decide
theorem test_decode_rdTb : decode ⟨0x3200#16, 0#32, 0#32⟩ = .rdTbCtrl ∧ decode ⟨0x3201#16, 0#32, 0#32⟩ = .rdTbLoad ∧
    decode ⟨0x3202#16, 0#32, 0#32⟩ = .rdTbVal ∧ decode ⟨0x3203#16, 0#32, 0#32⟩ = .rdTbCal ∧
    decode ⟨0x3204#16, 0#32, 0#32⟩ = .rdTbQuant ∧ decode ⟨0x3205#16, 0#32, 0#32⟩ = .rdTbReserved5 ∧
    decode ⟨0x3207#16, 0#32, 0#32⟩ = .rdTbReserved6to7 7#4 ∧
    decode ⟨0x3209#16, 0#32, 0#32⟩ = .rdTbReserved8to15 9#4 := by decide
theorem test_decode_buffer : decode ⟨0x4400#16, 0x20000100#32, 0#32⟩ = .ldB 1#2 0x20000100#32 ∧
    decode ⟨0x4100#16, 2#32, 0#32⟩ = .ldH 0#2 2#32 ∧ decode ⟨0x4200#16, 4#32, 0#32⟩ = .ldW 0#2 4#32 ∧
    decode ⟨0x5000#16, 1#32, 2#32⟩ = .stB 0#2 1#32 2#32 ∧ decode ⟨0x5500#16, 1#32, 2#32⟩ = .stH 1#2 1#32 2#32 ∧
    decode ⟨0x5A00#16, 1#32, 2#32⟩ = .stW 2#2 1#32 2#32 := by decide
theorem test_decode_events : decode ⟨0x8341#16, 0#32, 0#32⟩ = .evByte .c0 0x41#8 ∧
    decode ⟨0x9055#16, 0#32, 0#32⟩ = .evIdle .c0 ∧ decode ⟨0xA400#16, 0#32, 0#32⟩ = .evDxfer .c1 ∧
    decode ⟨0xB000#16, 0#32, 0#32⟩ = .evFtick .c0 ∧ decode ⟨0xC800#16, 0#32, 0#32⟩ = .evDidle .c2 ∧
    decode ⟨0xD800#16, 0#32, 0#32⟩ = .evDexp .c2 ∧ decode ⟨0xEC00#16, 0#32, 0#32⟩ = .evTtick ∧
    decode ⟨0xF800#16, 0#32, 0#32⟩ = .evDerr .c2 := by decide
theorem test_table_word : decodeTableWord 48 0x0000000206_00 = some (.cmdReset .c1) ∧
    decodeTableWord 16 0x8041 = some (.evByte .c0 0x41#8) ∧ decodeTableWord 8 0x41 = none := by decide
theorem test_table_length : opcodeTable.length = 82 := by decide

/-! ### The bus level: vectors V-DEC-10 to V-DEC-19 -/

theorem test_bus_window : busToWord cfgV ⟨.write, 0x40000040#32, 4, 1#32⟩ = .op ⟨0x0600#16, 1#32, 0#32⟩ ∧
    busToWord cfgV ⟨.read, 0x400000C8#32, 4, 0#32⟩ = .op ⟨0x3202#16, 0#32, 0#32⟩ ∧
    busToWord cfgV ⟨.read, 0x40000060#32, 4, 0#32⟩ = .op ⟨0x1608#16, 0#32, 0#32⟩ ∧
    busToWord cfgV ⟨.read, 0x40000024#32, 4, 0#32⟩ = .op ⟨0x1209#16, 0#32, 0#32⟩ ∧
    busToWord cfgV ⟨.read, 0x400000D4#32, 4, 0#32⟩ = .op ⟨0x3205#16, 0#32, 0#32⟩ := by decide
theorem test_bus_fault : busToWord cfgV ⟨.read, 0x40000046#32, 2, 0#32⟩ = .fault .badWidth ∧
    busToWord cfgV ⟨.read, 0x40000042#32, 4, 0#32⟩ = .fault .badWidth := by decide
theorem test_bus_buffer : busToWord cfgV ⟨.read, 0x20000100#32, 1, 0#32⟩ = .op ⟨0x4400#16, 0x20000100#32, 0#32⟩ ∧
    busToWord cfgV ⟨.read, 0x20000000#32, 3, 0#32⟩ = .refused .badSize ∧
    busToWord cfgV ⟨.read, 0x30000000#32, 4, 0#32⟩ = .refused .outside ∧
    busToWord cfgV ⟨.read, 0x20000002#32, 4, 0#32⟩ = .refused .outside := by decide
theorem test_step_bus : stepped (.bus ⟨.write, 0x40000004#32, 4, 0#32⟩) sOn (fun t => t.report == .faulted .writeRo) = true := by
  decide

/-! ### Power-on, commands and registers: vectors V-HI -/

/-- A host program without control flow. -/
def straight (ops : List Request) : HostProgram := fun seen => ops[seen.length]?
/-- `rd.ch 0, STAT`. -/
def readStat : Request := .word ⟨0x1201#16, 0#32, 0#32⟩
/-- `cmd.reset 0`. -/
def resetCommand : Request := .word ⟨0x0200#16, 2#32, 0#32⟩
/-- Host control flow: read STAT until it reads 0. -/
def pollUntilZero : HostProgram := fun seen => if seen.contains 0#32 then none else some readStat

-- An ill-formed configuration is not launched (60_exceptions.md R304).
theorem test_ill_formed_not_launched : State.launch { cfgV with tbw := 0 } = none := by decide
-- A run ends at the host program's last operation, not before and not after (70_reset_and_hazards.md R357).
theorem test_run_succeeds : ∃ t, RunSucceeds (straight [readStat]) cfgV [.word ⟨0x8033#16, 0#32, 0#32⟩, readStat] t ∧
    t.report = .value 0#32 := ⟨_, ⟨⟨_, rfl, rfl⟩, by decide⟩, rfl⟩
theorem test_prefix_is_no_run : hostRun (straight [readStat, resetCommand]) [] [readStat] (sOff.withSched [readStat]) = none := by
  decide
theorem test_faulted_run_fails : ∃ t, RunEnds (straight [readStat, resetCommand]) cfgV [readStat, resetCommand] t ∧
    t.clean = false := ⟨_, ⟨_, rfl, rfl⟩, by decide⟩
-- A fault does not reach the host: it holds the same word after a write that faulted as after one that completed
-- (60_exceptions.md R300), and another code leaves it no other word.
theorem test_host_not_told : hostSees [] (raiseFault .notInit sOff) = hostSees [] sOff.done ∧
    hostSees [] (raiseFault .readWo sOff) = hostSees [] (raiseFault .notInit sOff) := ⟨rfl, rfl⟩
-- Host control flow: the loop ends when STAT reads what the program waits for.
theorem test_run_polls : ∃ t, RunSucceeds pollUntilZero cfgV [readStat] t := ⟨_, ⟨_, rfl, rfl⟩, by decide⟩
theorem test_power_on : reports (.rdChStat .c0) sOff (.value 0#32) = true ∧ reports (.rdTbVal) sOff (.value 0#32) = true := by
  decide
theorem test_init : after (.cmdInit .c0) (sOff.setChan .c0 { Channel.powerOn with baud := 9600#32 })
    (fun t => t.chan .c0 == { armed 4#16 with baud := 9600#32, baudAct := 9600#32 }) = true := by decide
theorem test_init_armed : after (.cmdInit .c0) sOn (fun t => t.faults.initArmed && t.chan .c0 == armed 4#16) = true := by
  decide
theorem test_reset_keeps_hold :
    after (.cmdReset .c0) (on0 { expired with hold := some 0x07#8, den := false, derr := true, idleSeen := true })
      (fun t => t.chan .c0 == { armed 4#16 with hold := some 0x07#8, idleSeen := true }) = true := by decide
theorem test_reset_not_init : after (.cmdReset .c0) sOff (fun t => t.faults.notInit) = true := by decide
theorem test_prst : after (.cmdPrst .c0) (on0 { timing with baud := 5#32, hold := some 1#8 })
    (fun t => t.chan .c0 == Channel.powerOn && t.chan .c1 == armed 1#16) = true := by decide
theorem test_bad_command : reports (.cmdBad .c0 4#32) sOn (.faulted .badCmd) = true := by decide
theorem test_baud_write : after (.wrChBaud .c1 115200#32) sOn (fun t => (t.chan .c1).baud == 115200#32 && (t.chan .c1).baudAct == 0#32) = true := by
  decide
theorem test_write_ro : reports (.wrChLen .c0 5#32) sOn (.faulted .writeRo) = true ∧
    reports (.wrTbVal 7#32) sOn (.faulted .writeRo) = true := by decide
theorem test_read_cmd : reports (.rdChCmd .c0) sOn (.faulted .readWo) = true := by decide
theorem test_reserved : reports (.rdChReserved9 .c0) sOn (.faulted .badReg) = true ∧
    reports (.rdTbReserved8to15 9#4) sOn (.faulted .badReg) = true := by decide
theorem test_narrow : reports (.wrChSz0 .c0 9#4 0#32) sOn (.faulted .badWidth) = true := by decide
theorem test_refused : after (.refuseClass6 0#2 0#2 0#8) sOn (fun t => t.refused && t.faults == FaultSet.empty) = true := by
  decide
theorem test_stat : reports (.rdChStat .c0) sOn (.value 0x420#32) = true ∧
    reports (.rdChStat .c0) (on0 { timing with idlef := true, upif := true, ten := false }) (.value 0x438#32) = true := by decide
theorem test_stat_errors :
    reports (.rdChStat .c0) (on0 { armed 4#16 with orerr := true, hold := some 0x10#8 }) (.value 0x720#32) = true ∧
    reports (.rdChStat .c0) (on0 { armed 4#16 with derr := true, ftf := true, cflag := 1#2 }) (.value 0x4E1#32) = true := by
  decide
theorem test_config_registers : reports (.rdChCap .c0) sOff (.value 4#32) = true ∧
    reports (.rdChBuf .c0) sOff (.value 0x20000000#32) = true ∧ reports (.rdChTper .c0) sOff (.value 3#32) = true ∧
    reports (.rdChCap .c2) sOff (.value 8#32) = true := by decide
theorem test_count_registers : reports (.rdChCnt .c0) (on0 timing) (.value 3#32) = true ∧
    reports (.rdChLen .c0) (on0 timing) (.value 1#32) = true ∧
    reports (.rdChTcnt .c0) (on0 { timing with tcnt := 2#16 }) (.value 2#32) = true := by decide

/-! ### Time base: vectors V-TB -/

theorem test_tick_disabled : noStep .evTtick sOff = true := by decide
theorem test_tick : after .evTtick (sTb true 4#32 0#32) (fun t => t.tb.val == 4#32) = true ∧
    after .evTtick (sTb true 4#32 4#32) (fun t => t.tb.val == 3#32) = true := by decide
theorem test_ctrl_loads : after (.wrTbCtrl 3#32) (sTb false 7#32 0#32)
    (fun t => t.tb.en && t.tb.clksrc && t.tb.val == 7#32) = true := by decide
theorem test_ctrl_keeps : after (.wrTbCtrl 1#32) (sTb true 7#32 50#32) (fun t => t.tb.val == 50#32) = true ∧
    after (.wrTbCtrl 0xFFFFFFFC#32) (sTb true 7#32 50#32) (fun t => !t.tb.en && !t.tb.clksrc && t.tb.val == 50#32) = true := by
  decide
theorem test_load_masked : after (.wrTbLoad 0x1FF#32) sOff (fun t => t.tb.load == 0xFF#32) = true := by decide
theorem test_cal_quant : after (.wrTbCal 600#32) sOff (fun t => t.tb.cal == 600#32) = true ∧
    after (.wrTbQuant 600000#32) sOff (fun t => t.tb.quant == 600000#32) = true := by decide
theorem test_tb_reads : reports .rdTbCtrl (sTb true 99#32 7#32) (.value 1#32) = true ∧
    reports .rdTbLoad (sTb true 99#32 7#32) (.value 99#32) = true := by decide
theorem test_est : est 256 5 3 = 2 ∧ est 256 3 5 = 254 ∧ est 256 0 255 = 1 ∧ est 256 255 0 = 255 ∧ est 256 7 7 = 0 := by
  decide

/-! ### Buffer memory: vectors V-MEM -/

theorem test_load : reports (.ldW 0#2 0x20000000#32) sMem (.value 0x44332211#32) = true ∧
    reports (.ldH 0#2 0x20000002#32) sMem (.value 0x4433#32) = true ∧
    reports (.ldB 3#2 0x20000003#32) sMem (.value 0x44#32) = true := by decide
theorem test_load_stops : reports (.ldH 0#2 0x20000001#32) sMem (.faulted .bufAlign) = true ∧
    reports (.ldW 0#2 0x20000002#32) sMem (.refused .outside) = true ∧
    reports (.ldW 0#2 0x20000004#32) sMem (.refused .outside) = true ∧
    reports (.ldB 0#2 0x00001000#32) sMem (.refused .outside) = true := by decide
theorem test_store_faults : reports (.stB 0#2 0x20000000#32 0x41#32) sMem (.faulted .bufWrite) = true ∧
    reports (.stH 0#2 0x20000001#32 0x41#32) sMem (.faulted .bufWrite) = true ∧
    reports (.stW 0#2 0x20000002#32 0x41#32) sMem (.refused .outside) = true := by decide

/-! ### Line and DMA: vectors V-RX -/

theorem test_byte_held : after (.evByte .c0 0x41#8) sOn
    (fun t => t.chan .c0 == { armed 4#16 with hold := some 0x41#8, idleSeen := true }) = true := by decide
theorem test_byte_dropped : after (.evByte .c0 0x33#8) sOff (fun t => t.chan .c0 == Channel.powerOn) = true := by decide
theorem test_byte_overrun : after (.evByte .c0 0x20#8) (on0 { armed 4#16 with hold := some 0x10#8 })
    (fun t => (t.chan .c0).orerr && (t.chan .c0).hold.isSome) = true := by decide
theorem test_idle : after (.evIdle .c0) (on0 { armed 4#16 with idleSeen := true })
    (fun t => t.chan .c0 == { armed 4#16 with idlef := true }) = true := by decide
theorem test_idle_strict : noStep (.evIdle .c0) { sOn with cfg := cfgWith .strict false } = true := by decide
theorem test_dxfer : after (.evDxfer .c0) (on0 { armed 4#16 with cnt := 3#16, hold := some 0x5A#8 })
    (fun t => t.chan .c0 == { armed 4#16 with cnt := 2#16 } && t.mem == [(0x20000001, 0x5A#8)]) = true := by decide
theorem test_dxfer_reload : after (.evDxfer .c1) (on1 { armed 1#16 with hold := some 0x55#8 })
    (fun t => t.chan .c1 == { armed 1#16 with ftf := true } && t.mem == [(0x20000100, 0x55#8)]) = true := by decide
theorem test_derr : after (.evDerr .c2) sOn (fun t => (t.chan .c2).derr && (t.chan .c2).den) = true := by decide
theorem test_derr_disables : after (.evDerr .c2) { sOn with cfg := cfgWith .loose true }
    (fun t => (t.chan .c2).derr && !(t.chan .c2).den) = true := by decide

/-! ### Frame timer and detector: vectors V-FT and V-DET -/

theorem test_ftick : after (.evFtick .c0) (on0 { timing with tcnt := 1#16 })
    (fun t => t.chan .c0 == { timing with tcnt := 2#16 }) = true := by decide
theorem test_ftick_expiry : after (.evFtick .c0) (on0 { timing with tcnt := 2#16 }) (fun t => t.chan .c0 == expired) = true := by
  decide
theorem test_didle : after (.evDidle .c0) (on0 { armed 4#16 with cnt := 3#16, idlef := true, tcnt := 1#16 })
    (fun t => t.chan .c0 == timing) = true ∧
    after (.evDidle .c0) (on0 { armed 4#16 with idlef := true }) (fun t => t.chan .c0 == armed 4#16) = true := by decide
theorem test_didle_full : after (.evDidle .c0) (on0 { armed 4#16 with ftf := true, idlef := true })
    (fun t => t.chan .c0 == { armed 4#16 with ftf := true, len := 4#16, ten := true }) = true := by decide
theorem test_dexp : after (.evDexp .c0) (on0 expired)
    (fun t => t.chan .c0 == { expired with upif := false, cflag := 1#2 } && t.mem == [(0x20000001, 0x00#8)]) = true := by decide
theorem test_dexp_full : after (.evDexp .c0) (on0 { armed 4#16 with ftf := true, len := 4#16, upif := true })
    (fun t => (t.chan .c0).len == 4#16 && t.mem == [(0x20000004, 0x00#8)]) = true := by decide

/-! ### Witnesses: a state and operands that meet the hypotheses of each statement, clause by clause -/

/-- Channel 0 with the ring exactly filled and its timer expired. -/
def expiredFull : Channel := { armed 4#16 with ftf := true, len := 4#16, upif := true }

/-- Channel 0 with an idle pending and one byte in the ring. -/
def idling : Channel := { armed 4#16 with cnt := 3#16, idlef := true }

/-- Channel 0 holding a completed frame of one byte. -/
def ready : Channel := { armed 4#16 with cnt := 3#16, len := 1#16, cflag := 1#2 }

theorem armedOk_c1 : (armed 1#16).armedOk cfgV 1#16 1#17 := by unfold Channel.armedOk; decide
theorem armedOk_c2 : (armed 8#16).armedOk cfgV 8#16 2#17 := by unfold Channel.armedOk; decide

theorem inv_on0 (x : Channel) (hi : x.inited = true) (hx : x.armedOk cfgV 4#16 3#17) : BlockInv (on0 x) := by
  refine ⟨?_, Nat.two_pow_pos 8, Nat.two_pow_pos 8, rfl, fun p hp => by cases hp⟩
  intro c
  cases c
  · exact ⟨fun h => absurd hi (by rw [show x.inited = false from h]; decide), fun _ => hx⟩
  · exact ⟨fun h => absurd (show true = false from h) (by decide), fun _ => armedOk_c1⟩
  · exact ⟨fun h => absurd (show true = false from h) (by decide), fun _ => armedOk_c2⟩

theorem inv_sOff : BlockInv sOff := by
  refine ⟨?_, by decide, by decide, rfl, fun p hp => by cases hp⟩
  intro c
  cases c <;> exact ⟨fun _ => rfl, fun h => absurd h (by decide)⟩

theorem inv_armed : BlockInv (on0 (armed 4#16)) := inv_on0 _ rfl (by unfold Channel.armedOk; decide)
theorem inv_timing : BlockInv (on0 timing) := inv_on0 _ rfl (by unfold Channel.armedOk; decide)
theorem inv_expired : BlockInv (on0 expired) := inv_on0 _ rfl (by unfold Channel.armedOk; decide)
theorem inv_expiredFull : BlockInv (on0 expiredFull) := inv_on0 _ rfl (by unfold Channel.armedOk; decide)
theorem inv_idling : BlockInv (on0 idling) := inv_on0 _ rfl (by unfold Channel.armedOk; decide)
theorem inv_ready : BlockInv (on0 ready) := inv_on0 _ rfl (by unfold Channel.armedOk; decide)
theorem inv_spurious : BlockInv (on0 { armed 4#16 with idlef := true }) :=
  inv_on0 _ rfl (by unfold Channel.armedOk; decide)

theorem test_frame_content : State.frameContent (sMem.setChan .c0 ready) .c0 = [0x11#8, 0x22#8] := by decide
theorem witness_InvariantHoldsAtPowerOn : cfgV.wf = true ∧ Config.wf { cfgV with tbw := 0 } = false := by decide
theorem witness_DecodeInvertsEncode : (Instr.cmdBad .c0 0#32).wellFormed = true ∧
    (Instr.wrChReserved10to11 .c0 10#4 7#32).wellFormed = true ∧ (Instr.rdChReserved12to15 .c2 15#4).wellFormed = true ∧
    (Instr.wrTbReserved6to7 7#4 7#32).wellFormed = true ∧ (Instr.rdTbReserved8to15 8#4).wellFormed = true := by decide
theorem witness_FirstMatchingRowDecides :
    ∃ r ∈ opcodeTable.drop 17, r.hits ⟨0x0600#16, 2#32, 0#32⟩ = true ∧ r.mnemonic = "cmd.reset" :=
  ⟨⟨"cmd.reset", 0xF30F#16, 0x0200#16, .equals 2#32⟩, by decide⟩
theorem witness_ExampleEncodingsHold : findBuf cfgV ((cfgV.ch.get .c0).buf + 4#32) 1 = some .c0 := by decide
theorem witness_IgnoredBitsKeepTheMeaning : (0#4 < 4#4 ∧ 3#4 < 4#4) ∧ (4#4 = 4#4 ∧ 9#4 ≤ 9#4 ∧ 9#4 ≤ 15#4) ∧
    (8#4 ≤ 8#4 ∧ 8#4 ≤ 15#4) := by decide
theorem witness_StepRunsTheDecodedWord :
    (sOn.withSched [.word ⟨0xF000#16, 0#32, 0#32⟩]).sched = .word ⟨0xF000#16, 0#32, 0#32⟩ :: [] := rfl
/-- The clauses in order: an illegal width; a narrow and a misaligned window access at its two ends; the channel
registers at the two ends of the three blocks; the time base at both ends; a buffer's two ends; just outside one. -/
theorem witness_BusAccessBecomesItsWord : cfgV.wf = true ∧
    ¬ (3 = 1 ∨ 3 = 2 ∨ 3 = 4) ∧
    (cfgV.winLo = 0x40000000 ∧ cfgV.winHi = 0x400000FF ∧ (0x400000FF - cfgV.winLo) % 4 ≠ 0) ∧
    ((0x40000000 - cfgV.winLo) / 64 < 3 ∧ (0x400000BC - cfgV.winLo) / 64 < 3 ∧ (0x400000BC - cfgV.winLo) % 4 = 0) ∧
    ((0x400000C0 - cfgV.winLo) / 64 = 3 ∧ (0x400000FC - cfgV.winLo) / 64 = 3 ∧ (0x400000FC - cfgV.winLo) % 4 = 0) ∧
    (cfgV.bufLo .c0 ≤ 0x20000000 ∧ 0x20000001 + 4 ≤ cfgV.bufHi .c0 + 1) ∧
    ¬ (0x20000002 + 4 ≤ cfgV.bufHi .c0 + 1) ∧ ¬ (cfgV.bufLo .c1 ≤ 0x20000002) ∧ ¬ (cfgV.bufLo .c2 ≤ 0x20000002) := by
  decide
theorem witness_NoStepWhereNotEnabled : (cfgWith .strict false).idlePolicy = .strict ∧ (sOff.chan .c0).inited = false ∧
    (sOn.chan .c0).idleSeen = false ∧ (sOff.chan .c0).den = false ∧ (sOn.chan .c0).hold = none ∧
    (sOn.chan .c0).ten = false ∧ (sOn.chan .c0).idlef = false ∧ (sOn.chan .c0).upif = false ∧ sOn.tb.en = false ∧
    sOn.sched = [] := by decide
theorem witness_PowerOnIsAsStated : Instr.rdTbQuant ∈ [Instr.rdTbCtrl, .rdTbQuant] := by decide
theorem witness_EveryStepKeepsTheInvariant : ∃ t, (on0 expired).cfg.wf = true ∧
    BlockInv ((on0 expired).withSched [.word ⟨0xD000#16, 0#32, 0#32⟩]) ∧
    step ((on0 expired).withSched [.word ⟨0xD000#16, 0#32, 0#32⟩]) = .next t :=
  ⟨_, by decide, inv_expired, rfl⟩
theorem witness_ConfigurationNeverChanges : (∃ t, exec (.wrChBaud .c0 5#32) sOn = .next t) ∧
    (∃ t, step (sOn.withSched [.word ⟨0x0204#16, 5#32, 0#32⟩]) = .next t) := ⟨⟨_, rfl⟩, ⟨_, rfl⟩⟩
theorem witness_FaultsAndRefusalAreSticky : ∃ t,
    step (refuse .outside (raiseFault .badReg (sOn.withSched [.word ⟨0x0204#16, 5#32, 0#32⟩]))) = .next t ∧
    (refuse .outside (raiseFault .badReg sOn)).faults.has .badReg = true ∧
    (refuse .outside (raiseFault .badReg sOn)).refused = true := ⟨_, rfl, rfl, rfl⟩
theorem witness_FaultOrRefusalHasNoOtherEffect :
    (∃ t, exec (.cmdReset .c0) sOff = .next t ∧ t.report = .faulted .notInit) ∧
    (∃ t, exec (.refuseClass6 0#2 0#2 0#8) sOff = .next t ∧ t.report = .refused .badClass) ∧
    (∃ t, exec (.wrChBaud .c0 5#32) sOff = .next t ∧ t.report = .done) :=
  ⟨⟨_, rfl, rfl⟩, ⟨_, rfl, rfl⟩, ⟨_, rfl, rfl⟩⟩
theorem witness_EventsNeverFault : (Instr.evByte .c0 1#8).agent ≠ some .host ∧ (Instr.evByte .c0 1#8).agent ≠ none ∧
    ∃ t, exec (.evByte .c0 1#8) sOn = .next t := ⟨by decide, by decide, _, rfl⟩
theorem witness_ReadsHaveNoSideEffect : ∃ t, exec (.rdChStat .c0) sOn = .next t ∧ t.report = .value 0x420#32 :=
  ⟨_, rfl, by decide⟩
theorem witness_OnlyDmaAndExpiryWriteMemory : (∃ t, exec (.stB 0#2 0x20000000#32 1#32) sOn = .next t) ∧
    ∀ c, Instr.stB 0#2 0x20000000#32 1#32 ≠ .evDxfer c ∧ Instr.stB 0#2 0x20000000#32 1#32 ≠ .evDexp c :=
  ⟨⟨_, rfl⟩, by intro c; cases c <;> decide⟩
theorem witness_ChannelOperationStaysInItsChannel : ∃ t, cfgV.wf = true ∧ BlockInv (on0 expired) ∧
    (Instr.evDexp .c0).chan? = some .c0 ∧ exec (.evDexp .c0) (on0 expired) = .next t :=
  ⟨_, by decide, inv_expired, rfl, rfl⟩
theorem witness_ChannelOperationReadsOnlyItsChannel : ∃ t, (Instr.evDexp .c0).chan? = some .c0 ∧
    ((on0 expired).setChan .c2 Channel.powerOn).cfg = (on0 expired).cfg ∧
    ((on0 expired).setChan .c2 Channel.powerOn).chan .c0 = (on0 expired).chan .c0 ∧
    ((on0 expired).setChan .c2 Channel.powerOn).draws.get .c0 = (on0 expired).draws.get .c0 ∧
    (∀ a, ((on0 expired).setChan .c2 Channel.powerOn).memByte a = (on0 expired).memByte a) ∧
    exec (.evDexp .c0) (on0 expired) = .next t := ⟨_, rfl, rfl, rfl, rfl, fun _ => rfl, rfl⟩
theorem witness_CflagMovesOnlyByExpiryAndCommands :
    (∃ t, exec (.evDexp .c0) (on0 expired) = .next t ∧ (t.chan .c0).cflag ≠ ((on0 expired).chan .c0).cflag) ∧
    (∃ t, exec (.cmdReset .c0) (on0 ready) = .next t ∧ (t.chan .c0).cflag ≠ ((on0 ready).chan .c0).cflag) :=
  ⟨⟨_, rfl, by decide⟩, ⟨_, rfl, by decide⟩⟩
theorem witness_NarrowRegisterAccessFaults : (0#4 < 4#4 ∧ 1#2 < 2#2 ∧ (0#4 < 2#4 → 2#2 ≠ 3#2)) ∧
    (3#4 < 4#4 ∧ 0#2 < 2#2 ∧ (3#4 < 2#4 → 3#2 ≠ 3#2)) ∧ cfgV.wf = true ∧
    (cfgV.winLo ≤ 0x40000000 ∧ 0x400000FF ≤ cfgV.winHi ∧ 0x400000FF % 4 ≠ 0) := by decide
theorem witness_ReservedRegisterFaults : 9#4 ≤ 9#4 ∧ 9#4 ≤ 15#4 ∧ 5#4 ≤ 5#4 ∧ 5#4 ≤ 15#4 := by decide
theorem witness_WrongWayRegisterAccessFaults : (0#32 ≠ 1#32 ∧ 0#32 ≠ 2#32 ∧ 0#32 ≠ 3#32) ∧
    (4#32 ≠ 1#32 ∧ 4#32 ≠ 2#32 ∧ 4#32 ≠ 3#32) := by decide
theorem witness_InitArmsTheChannel : sOff.cfg.wf = true ∧ (sOff.chan .c0).inited = false ∧ (sOn.chan .c0).inited = true := by decide
theorem witness_ResetRearmsTheChannel : (sOn.chan .c0).inited = true ∧ (sOff.chan .c0).inited = false := by decide
theorem witness_ResetIsIdempotent : ((on0 ready).chan .c0).inited = true := by decide
theorem witness_TickCountsDownAndReloads : (sTb false 4#32 0#32).tb.en = false ∧ (sTb true 4#32 0#32).tb.en = true ∧ (sTb true 4#32 0#32).tb.val = 0#32 ∧
    (sTb true 4#32 4#32).tb.val ≠ 0#32 := by decide
theorem witness_TimeBaseControlWrite : ((sTb false 4#32 0#32).tb.en = false ∧ (1#32).getLsbD 0 = true) ∧
    ¬ ((sTb true 4#32 0#32).tb.en = false ∧ (1#32).getLsbD 0 = true) := by decide
theorem witness_ElapsedTickEstimate : (sTb true 4#32 4#32).tb.en = true ∧
    (sTb true 4#32 4#32).tb.val.toNat ≤ (sTb true 4#32 4#32).tb.load.toNat ∧ 4 < (sTb true 4#32 4#32).tb.load.toNat + 1 := by
  decide
theorem witness_PollingDelayNeverReturnsEarly : (sTb true 4#32 0#32).tb.en = true ∧
    (sTb true 4#32 0#32).tb.val.toNat ≤ (sTb true 4#32 0#32).tb.load.toNat ∧
    ∀ g ∈ [0, 1, 4], g < (sTb true 4#32 0#32).tb.load.toNat + 1 := by decide
/-- Boundaries: the last word and the sentinel byte of a buffer, a misaligned half, and one byte past the end. -/
theorem witness_BufferReadIsLittleEndian :
    (cfgV.bufLo .c0 ≤ 0x20000000 ∧ 0x20000000 + 4 ≤ cfgV.bufHi .c0 + 1 ∧ 0x20000000 % 4 = 0) ∧
    (cfgV.bufLo .c0 ≤ 0x20000004 ∧ 0x20000004 + 1 ≤ cfgV.bufHi .c0 + 1) ∧
    (cfgV.bufLo .c0 ≤ 0x20000001 ∧ 0x20000001 + 2 ≤ cfgV.bufHi .c0 + 1 ∧ 0x20000001 % 2 ≠ 0) ∧
    (∀ c ∈ [Chan.c0, .c1, .c2], ¬ (cfgV.bufLo c ≤ 0x20000005 ∧ 0x20000005 + 1 ≤ cfgV.bufHi c + 1)) := by decide
theorem witness_BufferWriteFaults : (cfgV.bufLo .c1 ≤ 0x20000101 ∧ 0x20000101 + 1 ≤ cfgV.bufHi .c1 + 1) ∧
    (∀ c ∈ [Chan.c0, .c1, .c2], ¬ (cfgV.bufLo c ≤ 0x20000101 ∧ 0x20000101 + 2 ≤ cfgV.bufHi c + 1)) := by decide
theorem witness_ArrivingByte : (sOff.chan .c0).inited = false ∧
    ((sOn.chan .c0).inited = true ∧ (sOn.chan .c0).hold = none) ∧
    ((on0 { armed 4#16 with hold := some 7#8 }).chan .c0).inited = true ∧
    ((on0 { armed 4#16 with hold := some 7#8 }).chan .c0).hold = some 7#8 := by decide
theorem witness_LineIdle : ((cfgWith .strict false).idlePolicy ≠ .loose ∧ (sOn.chan .c0).idleSeen = false) ∧
    (sOff.cfg.idlePolicy = .loose ∧ (sOff.chan .c0).inited = false) ∧
    (sOn.cfg.idlePolicy = .loose ∧ (sOn.chan .c0).inited = true) ∧
    ((cfgWith .strict false).idlePolicy = .strict ∧ ((on0 { armed 4#16 with idleSeen := true }).chan .c0).idleSeen = true) := by
  decide
theorem witness_DmaTransfer : ((sOff.chan .c0).den = false ∧ (sOn.chan .c0).hold = none) ∧
    (cfgV.wf = true ∧ ((on0 { armed 4#16 with hold := some 7#8 }).chan .c0).hold = some 7#8 ∧
      ((on0 { armed 4#16 with hold := some 7#8 }).chan .c0).den = true ∧
      1 ≤ ((on0 { armed 4#16 with hold := some 7#8 }).chan .c0).cnt.toNat ∧
      ((on0 { armed 4#16 with hold := some 7#8 }).chan .c0).cnt.toNat ≤ (sOn.cap .c0).toNat ∧
      ((on0 { armed 4#16 with hold := some 7#8 }).chan .c0).cnt ≠ 1#16) ∧
    ((on1 { armed 1#16 with hold := some 7#8 }).chan .c1).cnt = 1#16 := by decide
theorem witness_DmaError : (sOff.chan .c0).den = false ∧ (sOn.chan .c0).den = true ∧ (cfgWith .loose true).dmaErrDisables = true ∧
    sOn.cfg.dmaErrDisables = false := by decide
theorem witness_RingCountLaw : ∃ t, sOn.cfg.wf = true ∧ sOn.freshlyArmed .c1 ∧
    (∀ i ∈ [Instr.evByte .c1 7#8, .evDxfer .c1], rearms .c1 i = false) ∧
    execAll [.evByte .c1 7#8, .evDxfer .c1] sOn = .next t ∧ dxfers .c1 [.evByte .c1 7#8, .evDxfer .c1] = 1 :=
  ⟨_, by decide, ⟨rfl, rfl, rfl⟩, by decide, rfl, by decide⟩
theorem witness_RingKeepsTheLastBytes : sOn.cfg.wf = true ∧ sOn.freshlyArmed .c1 ∧ (sOn.chan .c1).den = true ∧
    (sOn.chan .c1).hold = none ∧ 1 < [1#8, 2#8].length ∧ [1#8, 2#8].length ≤ 1 + (sOn.cap .c1).toNat :=
  ⟨by decide, ⟨rfl, rfl, rfl⟩, by decide⟩
theorem witness_FrameTimerTick : (sOn.chan .c0).ten = false ∧ ((on0 timing).chan .c0).ten = true ∧
    ((on0 { timing with tcnt := 2#16 }).chan .c0).tcnt.toNat + 1 = (sOn.tper .c0).toNat ∧
    ((on0 { timing with tcnt := 1#16 }).chan .c0).tcnt.toNat + 1 ≠ (sOn.tper .c0).toNat := by decide
theorem witness_TimerExpiresOnItsLastTick : ∃ t, (on1 { armed 1#16 with ftf := true, len := 1#16, ten := true }).cfg.wf = true ∧
    ((on1 { armed 1#16 with ftf := true, len := 1#16, ten := true }).chan .c1).ten = true ∧
    ((on1 { armed 1#16 with ftf := true, len := 1#16, ten := true }).chan .c1).upif = false ∧
    (∀ i ∈ [Instr.evFtick .c1], rearms .c1 i = false ∧ i ≠ .evDidle .c1) ∧
    execAll [.evFtick .c1] (on1 { armed 1#16 with ftf := true, len := 1#16, ten := true }) = .next t ∧
    fticks .c1 [.evFtick .c1] = (sOn.tper .c1).toNat ∧ fticks .c1 [] < (sOn.tper .c1).toNat :=
  ⟨_, by decide, rfl, rfl, by decide, rfl, by decide, by decide⟩
/-- A run in which channel 0's timer, one tick short, expires, its frame is declared, and then the host reads TB_CTRL
for ever. -/
def quietOp (n : Nat) : Instr :=
  match n with
  | 0 => .evFtick .c0
  | 1 => .evDexp .c0
  | _ + 2 => .rdTbCtrl
/-- Its states. -/
def quietSt (n : Nat) : State :=
  match n with
  | 0 => on0 { timing with tcnt := 2#16 }
  | 1 => (on0 expired).done
  | 2 => ((on0 expired).storeByte 0x20000001#32 0#8 |>.setChan .c0 ready).done
  | _ + 3 => ((on0 expired).storeByte 0x20000001#32 0#8 |>.setChan .c0 ready).returns 0#32
theorem quiet_endless : EndlessRun quietOp quietSt := by
  intro n
  match n with
  | 0 => rfl
  | 1 => rfl
  | 2 => rfl
  | _ + 3 =>
    show exec .rdTbCtrl (quietSt 3) = .next (quietSt 3)
    rfl
theorem quiet_fair : WeaklyFair quietOp quietSt := by
  intro i hi n h
  have e : enabledIn i (quietSt 3) := h (n + 3) (by omega)
  cases i <;> first | (rename_i c; cases c <;> exact absurd rfl e) | exact absurd rfl e | cases hi
theorem witness_QuietLineLeadsToFrameReady : EndlessRun quietOp quietSt ∧ WeaklyFair quietOp quietSt ∧
    (quietSt 0).cfg.wf = true ∧ BlockInv (quietSt 0) ∧ ((quietSt 0).chan .c0).ten = true ∧
    (∀ n, rearms .c0 (quietOp n) = false ∧ quietOp n ≠ .evIdle .c0) := by
  refine ⟨quiet_endless, quiet_fair, by decide, inv_on0 _ rfl (by unfold Channel.armedOk; decide), rfl, fun n => ?_⟩
  match n with
  | 0 => decide
  | 1 => decide
  | _ + 2 => exact ⟨rfl, Instr.noConfusion⟩
theorem witness_IdleAction : (sOn.chan .c0).idlef = false ∧ ((on0 idling).chan .c0).idlef = true ∧ sOn.cap .c0 - idling.cnt = 1#16 ∧
    sOn.cap .c0 - (armed 4#16).cnt = 0#16 ∧ (armed 4#16).ftf = false ∧ expiredFull.ftf = true := by decide
theorem witness_ExpiryAction : (sOn.chan .c0).upif = false ∧ (on0 expiredFull).cfg.wf = true ∧ ((on0 expiredFull).chan .c0).upif = true ∧
    ((on0 expiredFull).chan .c0).cnt.toNat ≤ (sOn.cap .c0).toNat ∧ ((on0 expired).chan .c0).upif = true := by decide
theorem witness_SpuriousIdleChangesOnlyIdlef : cfgV.wf = true ∧ BlockInv (on0 { armed 4#16 with idlef := true }) ∧
    ((on0 { armed 4#16 with idlef := true }).chan .c0).cnt = sOn.cap .c0 ∧
    ((on0 { armed 4#16 with idlef := true }).chan .c0).ftf = false ∧
    ((on0 { armed 4#16 with idlef := true }).chan .c0).idlef = true := ⟨by decide, inv_spurious, rfl, rfl, rfl⟩
theorem witness_FullRingReadsAsCapacity : ∃ u, sOn.cfg.wf = true ∧ sOn.freshlyArmed .c1 ∧
    (∀ i ∈ [Instr.evByte .c1 7#8, .evDxfer .c1, .evIdle .c1, .evDidle .c1, .evFtick .c1], rearms .c1 i = false) ∧
    execAll [.evByte .c1 7#8, .evDxfer .c1, .evIdle .c1, .evDidle .c1, .evFtick .c1] sOn = .next u ∧
    dxfers .c1 [.evByte .c1 7#8, .evDxfer .c1, .evIdle .c1, .evDidle .c1, .evFtick .c1] = (sOn.cap .c1).toNat ∧
    (u.chan .c1).upif = true := ⟨_, by decide, ⟨rfl, rfl, rfl⟩, by decide, rfl, by decide, by decide⟩
theorem witness_SentinelStaysUntilTheNextTransfer :
    (∃ u t, cfgV.wf = true ∧ BlockInv (on0 expired) ∧ exec (.evDexp .c0) (on0 expired) = .next u ∧
      execAll [.evIdle .c0] u = .next t ∧ dxfers .c0 [.evIdle .c0] = 0 ∧ (u.chan .c0).len ≠ u.cap .c0) ∧
    (∃ u, BlockInv (on0 expiredFull) ∧ exec (.evDexp .c0) (on0 expiredFull) = .next u ∧ (u.chan .c0).len = u.cap .c0) :=
  ⟨⟨_, _, by decide, inv_expired, rfl, rfl, by decide, by decide⟩, ⟨_, inv_expiredFull, rfl, by decide⟩⟩
/-- One state for each frame state, with an operation of each clause that has a next state there. -/
theorem witness_FrameStateTransitions : cfgV.wf = true ∧ (BlockInv sOff ∧ (sOff.chan .c0).frameState = .uninit) ∧
    (BlockInv (on0 idling) ∧ ((on0 idling).chan .c0).frameState = .idle) ∧
    (BlockInv (on0 timing) ∧ ((on0 timing).chan .c0).frameState = .timerArmed) ∧
    (BlockInv (on0 expired) ∧ ((on0 expired).chan .c0).frameState = .timerArmed) ∧
    (BlockInv (on0 ready) ∧ ((on0 ready).chan .c0).frameState = .frameReady) ∧
    (∃ t, exec (.cmdInit .c0) sOff = .next t) ∧ (∃ t, exec (.evDidle .c0) (on0 idling) = .next t) ∧
    (∃ t, exec (.evFtick .c0) (on0 timing) = .next t) ∧ (∃ t, exec (.evDexp .c0) (on0 expired) = .next t) ∧
    (∃ t, exec (.cmdReset .c0) (on0 ready) = .next t) ∧ (∃ t, exec (.cmdPrst .c0) (on0 ready) = .next t) :=
  ⟨by decide, ⟨inv_sOff, rfl⟩, ⟨inv_idling, rfl⟩, ⟨inv_timing, rfl⟩, ⟨inv_expired, rfl⟩, ⟨inv_ready, rfl⟩, ⟨_, rfl⟩,
    ⟨_, rfl⟩, ⟨_, rfl⟩, ⟨_, rfl⟩, ⟨_, rfl⟩, ⟨_, rfl⟩⟩
theorem witness_LengthIsMonotonicWithinAFrame : ∃ u t, cfgV.wf = true ∧ BlockInv (on0 (armed 4#16)) ∧
    (on0 (armed 4#16)).freshlyArmed .c0 ∧
    (∀ i ∈ [Instr.evByte .c0 7#8, .evDxfer .c0] ++ [.evIdle .c0, .evDidle .c0], rearms .c0 i = false) ∧
    execAll [.evByte .c0 7#8, .evDxfer .c0] (on0 (armed 4#16)) = .next u ∧
    execAll [.evIdle .c0, .evDidle .c0] u = .next t ∧
    dxfers .c0 ([.evByte .c0 7#8, .evDxfer .c0] ++ [.evIdle .c0, .evDidle .c0]) ≤ (sOn.cap .c0).toNat :=
  ⟨_, _, by decide, inv_armed, ⟨rfl, rfl, rfl⟩, by decide, rfl, rfl, by decide⟩
theorem witness_CompletionHappensAtMostOnce : ∃ u t, ((on0 expired).chan .c0).inited = true ∧
    (∀ i ∈ [Instr.evDexp .c0] ++ [.evIdle .c0], rearms .c0 i = false) ∧
    execAll [.evDexp .c0] (on0 expired) = .next u ∧ execAll [.evIdle .c0] u = .next t ∧ (u.chan .c0).cflag = 1#2 :=
  ⟨_, _, rfl, by decide, rfl, rfl, by decide⟩
theorem witness_PendingActionsCommute : ((on0 { expired with idlef := true }).chan .c0).idlef = true ∧
    ((on0 { expired with idlef := true }).chan .c0).upif = true := by decide
theorem witness_FrozenFrameLaw : ∃ u t, cfgV.wf = true ∧ BlockInv (on0 expired) ∧ ((on0 expired).chan .c0).hold = none ∧
    exec (.evDexp .c0) (on0 expired) = .next u ∧
    (∀ i ∈ [Instr.evIdle .c0, .evDidle .c0], rearms .c0 i = false ∧ ∀ b, i ≠ .evByte .c0 b) ∧
    execAll [.evIdle .c0, .evDidle .c0] u = .next t := by
  refine ⟨_, _, by decide, inv_expired, rfl, rfl, ?_, rfl⟩
  intro i hi
  simp only [List.mem_cons, List.not_mem_nil, or_false] at hi
  rcases hi with h | h <;> subst h <;> exact ⟨by decide, fun b hb => by cases hb⟩

end Sys2Proof.Tests
end

section
/-! PROOFS. The STAT register as the host reads it (10_state.md R49; 44_host_interface.md R218). -/

namespace Sys2Proof.Machine

/-! ### Reading a channel register -/

/-- The 32-bit read of register `reg` of channel `c`, field by field (30_encoding.md R101, R104). -/
theorem rdCh_word_eq_packWord (c : Chan) (reg : BitVec 4) :
    0x1200#16 ||| reg.setWidth 16 ||| chField c = packWord 1#4 c.toBits 2#2 (regArg reg) := by
  cases c <;> (revert reg; decide)

theorem spells_rdCh (c : Chan) (reg : BitVec 4) :
    spells (0x1200#16 ||| reg.setWidth 16 ||| chField c) (decodeRdCh c reg) := by
  intro a b
  rw [rdCh_word_eq_packWord]
  simp [decode, decodeFields, Cls.ofBits, decodeCrd, Size.ofBits]

/-- What `State.returns` does is what the statements call a read that changes nothing (20_memory.md R78). -/
theorem onlyReturns_returns (v : Word) (s : State) : OnlyReturns v s (s.returns v) :=
  ⟨rfl, fun _ => ⟨rfl, rfl⟩, fun _ => rfl, rfl, rfl, rfl, rfl, rfl⟩

theorem exec_rdChStat (c : Chan) (s : State) :
    exec (.rdChStat c) s = .next (s.returns (s.chan c).statWord) := rfl

/-! ### The bits of STAT

STAT is built by appending one flag after the other below the flags before it, so its bits are read off a list that
grows with it. -/

/-- The bits of `x`, from bit 0 up, are the flags of the list; above them there are only zeros. -/
def ShowsFlags {w : Nat} (x : BitVec w) (flags : List Bool) : Prop := ∀ k, x.getLsbD k = flags.getD k false

theorem showsFlags_flagBit (b : Bool) : ShowsFlags (flagBit b) [b] := by
  intro k
  cases k with
  | zero => simp [flagBit]
  | succ k => simp [flagBit]

theorem ShowsFlags.append {w : Nat} {x : BitVec w} {flags : List Bool} (h : ShowsFlags x flags) (b : Bool) :
    ShowsFlags (x ++ flagBit b) (b :: flags) := by
  intro k
  rw [BitVec.getLsbD_append]
  cases k with
  | zero => simp [flagBit]
  | succ k => simpa using h k

/-- The flags of STAT above CFLAG, from bit 2 up (10_state.md R49). -/
def Channel.statFlags (ch : Channel) : List Bool :=
  [ch.ten, ch.upif, ch.idlef, ch.den, ch.ftf, ch.derr, ch.rbne, ch.orerr, ch.inited]

theorem Channel.statWord_getLsbD_add_two (ch : Channel) (k : Nat) :
    ch.statWord.getLsbD (k + 2) = ch.statFlags.getD k false := by
  have shows : ShowsFlags _ ch.statFlags :=
    ((((((((showsFlags_flagBit ch.inited).append ch.orerr).append ch.rbne).append ch.derr).append ch.ftf).append
      ch.den).append ch.idlef).append ch.upif).append ch.ten
  rw [← shows k, Channel.statWord, BitVec.getLsbD_setWidth, BitVec.getLsbD_append]
  by_cases hk : k + 2 < 32
  · simp [hk]
  · rw [decide_eq_false hk, Bool.false_and]
    exact (BitVec.getLsbD_of_ge _ k (by omega)).symm

theorem Channel.statWord_cflag (ch : Channel) : ch.statWord.extractLsb' 0 2 = ch.cflag := by
  apply BitVec.eq_of_getLsbD_eq
  intro i hi
  rw [BitVec.getLsbD_extractLsb', Nat.zero_add, Channel.statWord, BitVec.getLsbD_setWidth, BitVec.getLsbD_append]
  simp [hi, show i < 32 by omega]

/-- Bits 31:11 of STAT are reserved and read 0 (10_state.md R49). -/
theorem Channel.statWord_reserved (ch : Channel) {k : Nat} (h : 11 ≤ k) : ch.statWord.getLsbD k = false := by
  obtain ⟨j, rfl⟩ : ∃ j, k = j + 2 := ⟨k - 2, by omega⟩
  rw [ch.statWord_getLsbD_add_two, List.getD_eq_default]
  simpa [Channel.statFlags] using h

theorem Channel.rbne_eq_decide (ch : Channel) : ch.rbne = decide (ch.hold ≠ none) := by
  cases h : ch.hold <;> simp [Channel.rbne, h]

/-- Settles O31: the read returns `statWord`, whose bits are CFLAG and then `statFlags` in order. -/
theorem statShowsEveryFlag : Obligations.StatShowsEveryFlag := by
  intro s c
  have bit (k : Nat) := (s.chan c).statWord_getLsbD_add_two k
  exact ⟨spells_rdCh c 1#4, _, _, exec_rdChStat c s, onlyReturns_returns _ s, (s.chan c).statWord_cflag,
    bit 0, bit 1, bit 2, bit 3, bit 4, bit 5, (bit 6).trans (s.chan c).rbne_eq_decide, bit 7, bit 8,
    fun _ h => (s.chan c).statWord_reserved h⟩

end Sys2Proof.Machine
end

section
/-! PROOFS. The time base: its tick and its registers (40_time_base.md sections 1 and 2). -/

namespace Sys2Proof.Machine

/-! ### The words of the time base -/

theorem clsOf_append (cls : BitVec 4) (low : BitVec 12) : clsOf (cls ++ low) = cls :=
  BitVec.extractLsb'_append_eq_left

/-- TTICK has no fields: its class alone spells it (30_encoding.md R109 (c)). -/
theorem spells_evTtick (low : BitVec 12) : spells (0xE#4 ++ low) .evTtick := by
  intro a b
  simp [decode, clsOf_append, Cls.ofBits, decodeFields]

/-- The 32-bit access of time-base register `reg`, field by field (30_encoding.md R101, R104). -/
theorem tb_word_eq_packWord (cls reg : BitVec 4) :
    cls.setWidth 16 <<< 12 ||| 0x0200#16 ||| reg.setWidth 16 = packWord cls 0#2 2#2 (regArg reg) := by
  revert cls reg; decide

theorem spellsWith_wrTb (reg : BitVec 4) (data : Word) :
    spellsWith (0x2200#16 ||| reg.setWidth 16) data (decodeWrTb reg data) := by
  intro b
  rw [show 0x2200#16 = (2#4).setWidth 16 <<< 12 ||| 0x0200#16 from rfl, tb_word_eq_packWord]
  simp [decode, decodeFields, Cls.ofBits, decodeTwr, Size.ofBits]

theorem spells_rdTb (reg : BitVec 4) : spells (0x3200#16 ||| reg.setWidth 16) (decodeRdTb reg) := by
  intro a b
  rw [show 0x3200#16 = (3#4).setWidth 16 <<< 12 ||| 0x0200#16 from rfl, tb_word_eq_packWord]
  simp [decode, decodeFields, Cls.ofBits, decodeTrd, Size.ofBits]

/-! ### Writing the time base -/

/-- `State.setTb` is all that the statements allow an operation on the time base to do. -/
theorem tbBecomes_setTb_done (x : TimeBase) (s : State) : TbBecomes x s (s.setTb x).done :=
  ⟨rfl, fun _ => ⟨rfl, rfl⟩, fun _ => rfl, ⟨rfl, rfl, rfl, rfl⟩, rfl⟩

theorem exec_evTtick (s : State) : exec .evTtick s = whenEnabled s.tb.en (s.setTb s.tb.ticked).done := rfl

theorem exec_wrTbCtrl (data : Word) (s : State) :
    exec (.wrTbCtrl data) s = .next (s.setTb (s.tb.afterCtrl data)).done := rfl

theorem exec_wrTbLoad (data : Word) (s : State) :
    exec (.wrTbLoad data) s = .next (s.setTb { s.tb with load := tbField s.cfg data }).done := rfl

theorem exec_wrTbCal (data : Word) (s : State) :
    exec (.wrTbCal data) s = .next (s.setTb { s.tb with cal := data }).done := rfl

theorem exec_wrTbQuant (data : Word) (s : State) :
    exec (.wrTbQuant data) s = .next (s.setTb { s.tb with quant := data }).done := rfl

/-! ### The tick (40_time_base.md R140, R141) -/

theorem TimeBase.ticked_val_of_eq_zero {tb : TimeBase} (h : tb.val = 0#32) : tb.ticked.val = tb.load :=
  if_pos h

theorem TimeBase.ticked_val_toNat_add_one {tb : TimeBase} (h : tb.val ≠ 0#32) :
    tb.ticked.val.toNat + 1 = tb.val.toNat := by
  have counted : tb.ticked.val = tb.val - 1#32 := if_neg h
  rw [counted]
  bv_omega

theorem noNext_evTtick {s : State} (h : s.tb.en = false) : noNext .evTtick s := by
  intro t
  rw [exec_evTtick, h, whenEnabled_false]
  nofun

theorem exec_evTtick_of_enabled {s : State} (h : s.tb.en = true) :
    exec .evTtick s = .next (s.setTb s.tb.ticked).done := by
  rw [exec_evTtick, h, whenEnabled_true]

/-- Settles O33: the enabled tick leaves `ticked`, which differs in its count only. -/
theorem tickCountsDownAndReloads : Obligations.TickCountsDownAndReloads :=
  ⟨spells_evTtick, fun s => ⟨noNext_evTtick, fun enabled =>
    ⟨_, exec_evTtick_of_enabled enabled, tbBecomes_setTb_done s.tb.ticked s,
      TimeBase.ticked_val_of_eq_zero, TimeBase.ticked_val_toNat_add_one⟩⟩⟩

/-! ### Writing the registers (40_time_base.md R142-R146) -/

theorem TimeBase.afterCtrl_val_of_start {tb : TimeBase} {data : Word}
    (h : tb.en = false ∧ data.getLsbD 0 = true) : (tb.afterCtrl data).val = tb.load := if_pos h

theorem TimeBase.afterCtrl_val_of_not_start {tb : TimeBase} {data : Word}
    (h : ¬ (tb.en = false ∧ data.getLsbD 0 = true)) : (tb.afterCtrl data).val = tb.val := if_neg h

/-- Settles O34: the write leaves `afterCtrl`, whose count is split by whether EN went from 0 to 1. -/
theorem timeBaseControlWrite : Obligations.TimeBaseControlWrite := fun s data =>
  ⟨spellsWith_wrTb 0#4 data, _, exec_wrTbCtrl data s, tbBecomes_setTb_done (s.tb.afterCtrl data) s,
    TimeBase.afterCtrl_val_of_start, TimeBase.afterCtrl_val_of_not_start⟩

/-- Masking to TBW bits is the remainder modulo `2 ^ TBW`, for every TBW: from 32 up the mask keeps the whole word. -/
theorem tbField_toNat (cfg : Config) (data : Word) :
    (tbField cfg data).toNat = data.toNat % 2 ^ cfg.tbw := by
  have fits : data.toNat % 2 ^ cfg.tbw < 2 ^ 32 := (Nat.mod_le _ _).trans_lt data.isLt
  calc (tbField cfg data).toNat
      = data.toNat % 2 ^ 32 &&& (2 ^ cfg.tbw - 1) % 2 ^ 32 := by
        rw [tbField, tbMask, BitVec.toNat_and, BitVec.toNat_ofNat, Nat.mod_eq_of_lt data.isLt]
    _ = (data.toNat &&& 2 ^ cfg.tbw - 1) % 2 ^ 32 := Nat.and_mod_two_pow.symm
    _ = data.toNat % 2 ^ cfg.tbw := by rw [Nat.and_two_pow_sub_one_eq_mod, Nat.mod_eq_of_lt fits]

/-- Settles O35: each write replaces one field, and the mask of TB_LOAD is the remainder modulo `2 ^ TBW`. -/
theorem timeBaseStorageWrites : Obligations.TimeBaseStorageWrites := fun s data =>
  ⟨⟨spellsWith_wrTb 1#4 data, spellsWith_wrTb 3#4 data, spellsWith_wrTb 4#4 data⟩,
    ⟨_, exec_wrTbLoad data s, tbBecomes_setTb_done _ s, tbField_toNat s.cfg data⟩,
    ⟨_, exec_wrTbCal data s, tbBecomes_setTb_done _ s⟩,
    ⟨_, exec_wrTbQuant data s, tbBecomes_setTb_done _ s⟩⟩

/-! ### Reading the registers (40_time_base.md R147-R151) -/

theorem exec_rdTbCtrl (s : State) : exec .rdTbCtrl s = .next (s.returns s.tb.ctrlWord) := rfl

theorem exec_rdTbLoad (s : State) : exec .rdTbLoad s = .next (s.returns s.tb.load) := rfl

theorem exec_rdTbVal (s : State) : exec .rdTbVal s = .next (s.returns s.tb.val) := rfl

theorem exec_rdTbCal (s : State) : exec .rdTbCal s = .next (s.returns s.tb.cal) := rfl

theorem exec_rdTbQuant (s : State) : exec .rdTbQuant s = .next (s.returns s.tb.quant) := rfl

theorem TimeBase.ctrlWord_toNat (tb : TimeBase) :
    tb.ctrlWord.toNat = (if tb.en then 1 else 0) + (if tb.clksrc then 2 else 0) := by
  unfold TimeBase.ctrlWord
  cases tb.en <;> cases tb.clksrc <;> rfl

/-- Settles O36: each read returns its field and changes nothing else; TB_CTRL's two bits are read as a number. -/
theorem timeBaseRegistersReadBack : Obligations.TimeBaseRegistersReadBack :=
  ⟨⟨spells_rdTb 0#4, spells_rdTb 1#4, spells_rdTb 2#4, spells_rdTb 3#4, spells_rdTb 4#4⟩, fun s =>
    ⟨⟨_, _, exec_rdTbCtrl s, onlyReturns_returns _ s, s.tb.ctrlWord_toNat⟩,
      ⟨_, exec_rdTbLoad s, onlyReturns_returns _ s⟩, ⟨_, exec_rdTbVal s, onlyReturns_returns _ s⟩,
      ⟨_, exec_rdTbCal s, onlyReturns_returns _ s⟩, ⟨_, exec_rdTbQuant s, onlyReturns_returns _ s⟩⟩⟩

end Sys2Proof.Machine
end

section
/-! PROOFS. The line, the DMA receive engine and the DMA error (41_receive_dma.md sections 2 and 3). -/

namespace Sys2Proof.Machine

/-! ### The words of the channel events (30_encoding.md R101, R104) -/

/-- The operation word of an event of channel `c`, field by field; its SZ bits are written as 0. -/
theorem event_word_eq_packWord (cls : BitVec 4) (c : Chan) (arg : Byte) :
    cls.setWidth 16 <<< 12 ||| chField c ||| arg.setWidth 16 = packWord cls c.toBits 0#2 arg := by
  apply BitVec.eq_of_getLsbD_eq
  intro k hk
  simp only [packWord_getLsbD, chField, BitVec.getLsbD_or, BitVec.getLsbD_shiftLeft, BitVec.getLsbD_setWidth]
  by_cases inArg : k < 8
  · simp [inArg, hk, show k < 10 by omega, show k < 12 by omega]
  · have noArg : arg.getLsbD k = false := BitVec.getLsbD_of_ge _ k (by omega)
    by_cases inSz : k < 10
    · simp [inArg, inSz, noArg, show k < 12 by omega]
    · by_cases inCh : k < 12
      · simp [inArg, inSz, inCh, noArg, hk, show k - 10 < 16 by omega]
      · have noCh : c.toBits.getLsbD (k - 10) = false := BitVec.getLsbD_of_ge _ _ (by omega)
        simp [inArg, inSz, inCh, noArg, noCh, hk, show k - 12 < 16 by omega]

theorem decode_event_word (cls : BitVec 4) (c : Chan) (arg : Byte) (a b : Word) :
    decode ⟨cls.setWidth 16 <<< 12 ||| chField c ||| arg.setWidth 16, a, b⟩ =
      decodeFields (Cls.ofBits cls) c.toBits 0#2 arg a b := by
  simp [decode, event_word_eq_packWord]

theorem decode_event_word_without_arg (cls : BitVec 4) (c : Chan) (a b : Word) :
    decode ⟨cls.setWidth 16 <<< 12 ||| chField c, a, b⟩ = decodeFields (Cls.ofBits cls) c.toBits 0#2 0#8 a b := by
  simpa using decode_event_word cls c 0#8 a b

/-- The CH field of a channel is never refused. -/
@[simp] theorem decodeEvent_toBits (c : Chan) (refused : Instr) (event : Chan → Instr) :
    decodeEvent c.toBits refused event = event c := by
  simp [decodeEvent]

theorem spells_evByte (c : Chan) (b : Byte) :
    spells (0x8000#16 ||| chField c ||| b.setWidth 16) (.evByte c b) :=
  fun x y => (decode_event_word 0x8#4 c b x y).trans (decodeEvent_toBits c _ _)

theorem spells_evIdle (c : Chan) : spells (0x9000#16 ||| chField c) (.evIdle c) :=
  fun x y => (decode_event_word_without_arg 0x9#4 c x y).trans (decodeEvent_toBits c _ _)

theorem spells_evDxfer (c : Chan) : spells (0xA000#16 ||| chField c) (.evDxfer c) :=
  fun x y => (decode_event_word_without_arg 0xA#4 c x y).trans (decodeEvent_toBits c _ _)

theorem spells_evDerr (c : Chan) : spells (0xF000#16 ||| chField c) (.evDerr c) :=
  fun x y => (decode_event_word_without_arg 0xF#4 c x y).trans (decodeEvent_toBits c _ _)

/-! ### Guarded operations (10_state.md R23) -/

theorem noNext_of_disabled {i : Instr} {s t : State} {enabled : Bool} (he : exec i s = whenEnabled enabled t)
    (h : enabled = false) : noNext i s := by
  intro u
  rw [he, h, whenEnabled_false]
  nofun

theorem exec_of_enabled {i : Instr} {s t : State} {enabled : Bool} (he : exec i s = whenEnabled enabled t)
    (h : enabled = true) : exec i s = .next t := by
  rw [he, h, whenEnabled_true]

/-! ### Operations that replace one channel -/

theorem memSame_done (s : State) : MemSame s s.done := fun _ => rfl

theorem chanBecomes_done (c : Chan) (s : State) : ChanBecomes c (s.chan c) s s.done :=
  ⟨rfl, rfl, fun _ _ => ⟨rfl, rfl⟩, ⟨rfl, rfl, rfl, rfl, rfl⟩, rfl⟩

theorem memSame_setChan_done (c : Chan) (x : Channel) (s : State) : MemSame s (s.setChan c x).done := fun _ => rfl

/-- `State.setChan` is all that the statements allow an operation on one channel to do. -/
theorem chanBecomes_setChan_done (c : Chan) (x : Channel) (s : State) : ChanBecomes c x s (s.setChan c x).done :=
  ⟨s.setChan_chan_same c x, rfl, fun _ hd => ⟨s.setChan_chan_ne x hd, rfl⟩, ⟨rfl, rfl, rfl, rfl, rfl⟩, rfl⟩

/-- `ChanBecomes` does not speak of memory, so a store before it does not matter. -/
theorem chanBecomes_storeByte {a : Word} {b : Byte} {c : Chan} {x : Channel} {s t : State}
    (h : ChanBecomes c x (s.storeByte a b) t) : ChanBecomes c x s t := h

/-! ### LBYTE (41_receive_dma.md R161) -/

theorem exec_evByte (c : Chan) (b : Byte) (s : State) : exec (.evByte c b) s = .next (lineByte c b s).done := rfl

theorem lineByte_of_not_inited {c : Chan} {s : State} (b : Byte) (hi : (s.chan c).inited = false) :
    lineByte c b s = s := by
  simp [lineByte, hi]

theorem lineByte_of_hold_none {c : Chan} {s : State} (b : Byte) (hi : (s.chan c).inited = true)
    (hh : (s.chan c).hold = none) :
    lineByte c b s = s.setChan c { s.chan c with hold := some b, idleSeen := true } := by
  simp [lineByte, hi, hh]

theorem lineByte_of_hold_some {c : Chan} {s : State} (b : Byte) {old : Byte} (hi : (s.chan c).inited = true)
    (hh : (s.chan c).hold = some old) :
    lineByte c b s = (s.setChan c
      { s.chan c with orerr := true, idleSeen := true,
                      hold := some (drawByte c (s.draws.get c) old b) }).countDraw c := by
  simp [lineByte, hi, hh]

/-- Counting a draw of channel `c` leaves every other channel as the state before it had it. -/
theorem othersSame_setChan_countDraw_done (c : Chan) (x : Channel) (s : State) :
    OthersSame c s ((s.setChan c x).countDraw c).done :=
  fun _ hd => ⟨s.setChan_chan_ne x hd, PerChan.get_set_ne s.draws _ hd⟩

/-- Settles O41: the three cases of `lineByte`; in an overrun the byte that survives is `drawByte`'s. -/
theorem arrivingByte : Obligations.ArrivingByte := by
  intro s c b
  refine ⟨spells_evByte c b, fun hi => ⟨_, exec_evByte c b s, ?_⟩, fun hi hh => ⟨_, exec_evByte c b s, ?_⟩,
    fun old hi hh => ⟨_, drawByte c (s.draws.get c) old b, exec_evByte c b s, drawByte_cases c _ old b, ?_⟩⟩
  · rw [lineByte_of_not_inited b hi]
    exact ⟨chanBecomes_done c s, memSame_done s⟩
  · rw [lineByte_of_hold_none b hi hh]
    exact ⟨chanBecomes_setChan_done c _ s, memSame_setChan_done c _ s⟩
  · rw [lineByte_of_hold_some b hi hh]
    exact ⟨s.setChan_chan_same c _, othersSame_setChan_countDraw_done c _ s, ⟨rfl, rfl, rfl, rfl, rfl⟩,
      fun _ => rfl, rfl⟩

/-! ### LIDLE (41_receive_dma.md R162) -/

theorem exec_evIdle (c : Chan) (s : State) :
    exec (.evIdle c) s = whenEnabled (idleEnabled s.cfg.idlePolicy (s.chan c))
      (if (s.chan c).inited then s.setChan c { s.chan c with idlef := true, idleSeen := false } else s).done := rfl

theorem idleEnabled_iff {policy : IdlePolicy} {ch : Channel} :
    idleEnabled policy ch = true ↔ policy = .loose ∨ (ch.inited = true ∧ ch.idleSeen = true) := by
  cases policy with
  | loose => simp [idleEnabled]
  | strict => simp [idleEnabled]

/-- Settles O42: `idleEnabled` is the statement's condition, and the effect is split by `inited`. -/
theorem lineIdle : Obligations.LineIdle := by
  intro s c
  refine ⟨spells_evIdle c, fun disabled => ?_, fun enabled =>
    ⟨_, exec_of_enabled (exec_evIdle c s) (idleEnabled_iff.mpr enabled), ?_⟩⟩
  · exact noNext_of_disabled (exec_evIdle c s) (Bool.eq_false_iff.mpr (mt idleEnabled_iff.mp disabled))
  · cases hi : (s.chan c).inited with
    | false => exact ⟨memSame_done s, fun _ => chanBecomes_done c s, nofun⟩
    | true => exact ⟨memSame_setChan_done c _ s, nofun, fun _ => chanBecomes_setChan_done c _ s⟩

/-! ### DXFER (41_receive_dma.md R163) -/

theorem exec_evDxfer_of_hold_none {c : Chan} {s : State} (h : (s.chan c).hold = none) :
    exec (.evDxfer c) s = .fault .notEnabled := by
  simp [exec, execEvDxfer, h]

theorem exec_evDxfer_of_hold_some {c : Chan} {s : State} {b : Byte} (h : (s.chan c).hold = some b) :
    exec (.evDxfer c) s = whenEnabled (s.chan c).den
      ((s.storeByte (s.dmaAddr c) b).setChan c ((s.chan c).transferred (s.cap c))).done := by
  simp [exec, execEvDxfer, dmaTransfer, h]

theorem noNext_evDxfer {c : Chan} {s : State} (h : (s.chan c).den = false ∨ (s.chan c).hold = none) :
    noNext (.evDxfer c) s := by
  cases hh : (s.chan c).hold with
  | none =>
    intro t
    rw [exec_evDxfer_of_hold_none hh]
    nofun
  | some b =>
    have off : (s.chan c).den = false := h.resolve_right (by simp [hh])
    exact noNext_of_disabled (exec_evDxfer_of_hold_some hh) off

/-- The transfer's address is index `C - cnt` of the buffer, with nothing wrapping. -/
theorem State.dmaAddr_toNat {s : State} {c : Chan} (hw : s.cfg.wf = true)
    (hc : (s.chan c).cnt.toNat ≤ (s.cap c).toNat) :
    (s.dmaAddr c).toNat = s.cfg.bufLo c + ((s.cap c).toNat - (s.chan c).cnt.toNat) := by
  have index := Channel.rawLen_toNat hc
  rw [State.dmaAddr, State.bufAddr_toNat hw c (by omega), index]

/-- At the end of a pass the count reloads and FTF is set. -/
theorem Channel.transferred_of_last {ch : Channel} (cap : Half) (h : ch.cnt = 1#16) :
    ch.transferred cap = { ch with hold := none, cnt := cap, ftf := true } := if_pos h

theorem Channel.transferred_of_not_last {ch : Channel} (cap : Half) (h : ch.cnt ≠ 1#16) :
    ch.transferred cap = { ch with hold := none, cnt := ch.cnt - 1#16 } := if_neg h

/-- Within a pass the count goes down by one. -/
theorem Channel.transferred_cnt_toNat_add_one {ch : Channel} (cap : Half) (h : ch.cnt ≠ 1#16)
    (pos : 1 ≤ ch.cnt.toNat) : (ch.transferred cap).cnt.toNat + 1 = ch.cnt.toNat := by
  rw [Channel.transferred_of_not_last cap h]
  have le : 1#16 ≤ ch.cnt := pos
  rw [BitVec.toNat_sub_of_le le]
  exact Nat.sub_add_cancel pos

/-- A transfer stores the byte at its address and nowhere else. -/
theorem memSameBut_storeByte_setChan_done (a : Word) (b : Byte) (c : Chan) (x : Channel) (s : State) :
    MemSameBut a.toNat s ((s.storeByte a b).setChan c x).done :=
  fun _ hne => s.storeByte_memByte_ne b hne

/-- Settles O43: an enabled transfer is a store at `dmaAddr` and then `transferred`, split by whether it ends a
pass. The model's own `dmaTransfer` has the plain name. -/
theorem ReceiveDma.dmaTransfer : Obligations.DmaTransfer := by
  intro s c
  refine ⟨spells_evDxfer c, noNext_evDxfer, fun b hw hd hh pos le => ⟨State.dmaAddr_toNat hw le, _,
    exec_of_enabled (exec_evDxfer_of_hold_some hh) hd, s.storeByte_memByte_same _ b,
    memSameBut_storeByte_setChan_done _ b c _ s, fun last => ?_, fun notLast => ?_⟩⟩
  · rw [Channel.transferred_of_last _ last]
    exact chanBecomes_storeByte (chanBecomes_setChan_done c _ _)
  · rw [State.done_chan, State.setChan_chan_same]
    refine ⟨?_, Channel.transferred_cnt_toNat_add_one _ notLast pos⟩
    rw [Channel.transferred_of_not_last _ notLast]
    exact chanBecomes_storeByte (chanBecomes_setChan_done c _ _)

/-! ### DERR (41_receive_dma.md R164) -/

theorem exec_evDerr (c : Chan) (s : State) :
    exec (.evDerr c) s = whenEnabled (s.chan c).den
      (s.setChan c { s.chan c with derr := true, den := (s.chan c).den && !s.cfg.dmaErrDisables }).done := rfl

/-- Settles O44: the new DEN is `den && !DMA_ERR_DISABLES`, read off for both values of the parameter. -/
theorem dmaError : Obligations.DmaError := by
  intro s c
  have becomes := chanBecomes_setChan_done c
    { s.chan c with derr := true, den := (s.chan c).den && !s.cfg.dmaErrDisables } s
  refine ⟨spells_evDerr c, noNext_of_disabled (exec_evDerr c s), fun enabled =>
    ⟨_, exec_of_enabled (exec_evDerr c s) enabled, memSame_setChan_done c _ s, fun disables => ?_, fun keeps => ?_⟩⟩
  · rwa [disables, Bool.not_true, Bool.and_false] at becomes ⊢
  · rwa [keeps, Bool.not_false, Bool.and_true] at becomes ⊢

end Sys2Proof.Machine
end

section
/-! PROOFS. The frame timer's tick (42_frame_timer.md). -/

namespace Sys2Proof.Machine

theorem spells_evFtick (c : Chan) : spells (0xB000#16 ||| chField c) (.evFtick c) :=
  fun x y => (decode_event_word_without_arg 0xB#4 c x y).trans (decodeEvent_toBits c _ _)

theorem exec_evFtick (c : Chan) (s : State) :
    exec (.evFtick c) s =
      whenEnabled (s.chan c).ten (s.setChan c ((s.chan c).timerTicked (s.tper c))).done := rfl

/-! ### The count of the ticks since arming (R181) -/

/-- The TPER-th tick expires the timer. -/
theorem Channel.timerTicked_of_last {ch : Channel} {tper : BitVec 17} (h : ch.tcnt.toNat + 1 = tper.toNat) :
    ch.timerTicked tper = { ch with tcnt := 0#16, ten := false, upif := true } := if_pos h

theorem Channel.timerTicked_of_not_last {ch : Channel} {tper : BitVec 17} (h : ch.tcnt.toNat + 1 ≠ tper.toNat) :
    ch.timerTicked tper = { ch with tcnt := ch.tcnt + 1#16 } := if_neg h

/-- Settles O47: an enabled tick replaces the channel by `timerTicked`, split by whether it is the TPER-th. -/
theorem frameTimerTick : Obligations.FrameTimerTick := by
  intro s c
  have becomes := chanBecomes_setChan_done c ((s.chan c).timerTicked (s.tper c)) s
  refine ⟨spells_evFtick c, noNext_of_disabled (exec_evFtick c s), fun armed =>
    ⟨_, exec_of_enabled (exec_evFtick c s) armed, memSame_setChan_done c _ s, fun last => ?_, fun notLast => ?_⟩⟩
  · rwa [Channel.timerTicked_of_last last] at becomes ⊢
  · rwa [Channel.timerTicked_of_not_last notLast] at becomes ⊢

end Sys2Proof.Machine
end

section
/-! PROOFS. The ring law of the DMA count (41_receive_dma.md R167 (a), (b)): the count and FTF after `k` DXFERs. -/

namespace Sys2Proof.Machine

/-! ### What an operation does to the ring -/

/-- What the ring law follows is as before: whether the channel is initialised, its count and FTF. -/
def Channel.SameRing (x y : Channel) : Prop := y.inited = x.inited ∧ y.cnt = x.cnt ∧ y.ftf = x.ftf

theorem Channel.sameRing_timerTicked (ch : Channel) (tper : BitVec 17) : ch.SameRing (ch.timerTicked tper) := by
  unfold Channel.timerTicked
  split <;> exact ⟨rfl, rfl, rfl⟩

theorem Channel.sameRing_idleAction (ch : Channel) (cap : Half) : ch.SameRing (ch.idleAction cap) := by
  unfold Channel.idleAction
  split <;> exact ⟨rfl, rfl, rfl⟩

/-- Replacing channel `d` keeps every channel's ring when it keeps that of `d`. -/
theorem State.sameRing_setChan {s : State} {d : Chan} {x : Channel} (h : (s.chan d).SameRing x) (c : Chan) :
    (s.chan c).SameRing ((s.setChan d x).chan c) := by
  by_cases hcd : c = d
  · subst hcd
    rwa [State.setChan_chan_same]
  · rw [State.setChan_chan_ne s x hcd]
    exact ⟨rfl, rfl, rfl⟩

/-- Replacing another channel keeps the ring, whatever that channel becomes. -/
theorem State.sameRing_setChan_ne (s : State) {c d : Chan} (x : Channel) (h : c ≠ d) :
    (s.chan c).SameRing ((s.setChan d x).chan c) := by
  rw [State.setChan_chan_ne s x h]
  exact ⟨rfl, rfl, rfl⟩

/-- On an initialised channel only its DXFER, RESET and PRST touch the ring: INIT faults there. -/
theorem exec_sameRing {i : Instr} {s t : State} {c : Chan} (hi : (s.chan c).inited = true)
    (hr : rearms c i = false) (hx : i ≠ .evDxfer c) (h : exec i s = .next t) :
    (s.chan c).SameRing (t.chan c) := by
  cases exec_effect h with
  | init d hd => exact s.sameRing_setChan_ne _ (by rintro rfl; simp [hi] at hd)
  | reset d => exact s.sameRing_setChan_ne _ (by rintro rfl; simp [rearms] at hr)
  | prst d => exact s.sameRing_setChan_ne _ (by rintro rfl; simp [rearms] at hr)
  | dxfer d => exact State.sameRing_setChan_ne _ _ (by rintro rfl; exact hx rfl)
  | baud | byteHeld | byteOverrun | idle | derr | dexp =>
    refine State.sameRing_setChan ?_ c
    exact ⟨rfl, rfl, rfl⟩
  | ftick d => exact State.sameRing_setChan ((s.chan d).sameRing_timerTicked _) c
  | didle d => exact State.sameRing_setChan ((s.chan d).sameRing_idleAction _) c
  | fault | refused | value | ttick | ctrl | load | cal | quant | byteDropped | idleDropped => exact ⟨rfl, rfl, rfl⟩

theorem exec_evDxfer_chan {s t : State} {c : Chan} (h : exec (.evDxfer c) s = .next t) :
    t.chan c = (s.chan c).transferred (s.cap c) := by
  cases exec_effect h with
  | dxfer => exact State.setChan_chan_same _ c _
  | fault code hostOnly => cases hostOnly
  | refused why noAgent => rcases noAgent with e | e <;> cases e
  | value v hostOnly => cases hostOnly

/-! ### The configuration over a run (10_state.md R24) -/

theorem exec_cfg {i : Instr} {s t : State} (h : exec i s = .next t) : t.cfg = s.cfg := by
  cases exec_effect h <;> rfl

theorem execAll_cfg {is : List Instr} {s t : State} (h : execAll is s = .next t) : t.cfg = s.cfg :=
  execAll_keeps (P := fun x => x.cfg = s.cfg) (ok := fun _ => True)
    (fun _ _ _ _ same hx => (exec_cfg hx).trans same) (fun _ _ => trivial) rfl h

/-! ### The count and FTF after `k` transfers -/

/-- The channel is initialised, and its count and FTF are those of `k` DXFERs since ArmDma (R167 (a), (b)). -/
structure Channel.RingAfter (ch : Channel) (cap : Half) (k : Nat) : Prop where
  inited : ch.inited = true
  cnt : ch.cnt.toNat = cap.toNat - k % cap.toNat
  ftf : ch.ftf = true ↔ cap.toNat ≤ k

theorem State.freshlyArmed.ringAfter_zero {s : State} {c : Chan} (h : s.freshlyArmed c)
    (pos : 1 ≤ (s.cap c).toNat) : (s.chan c).RingAfter (s.cap c) 0 := by
  obtain ⟨hi, hc, hf⟩ := h
  exact ⟨hi, by simp [hc], iff_of_false (by simp [hf]) (by omega)⟩

theorem Channel.RingAfter.of_sameRing {x y : Channel} {cap : Half} {k : Nat} (h : x.RingAfter cap k)
    (same : x.SameRing y) : y.RingAfter cap k := by
  obtain ⟨si, sc, sf⟩ := same
  exact ⟨si.trans h.inited, sc ▸ h.cnt, sf ▸ h.ftf⟩

/-- One more transfer: at the end of a pass the remainder wraps to 0, within a pass it goes up by one. -/
theorem Channel.RingAfter.transferred {ch : Channel} {cap : Half} {k : Nat} (h : ch.RingAfter cap k)
    (pos : 1 ≤ cap.toNat) : (ch.transferred cap).RingAfter cap (k + 1) := by
  have rem_lt : k % cap.toNat < cap.toNat := Nat.mod_lt k pos
  have rem_le : k % cap.toNat ≤ k := Nat.mod_le k _
  have cnt := h.cnt
  by_cases last : ch.cnt = 1#16
  · have cnt_one : ch.cnt.toNat = 1 := by rw [last]; rfl
    have wraps : (k + 1) % cap.toNat = 0 := by
      rw [← Nat.mod_add_mod, show k % cap.toNat + 1 = cap.toNat by omega, Nat.mod_self]
    rw [Channel.transferred_of_last cap last]
    exact ⟨h.inited, by rw [wraps]; rfl, iff_of_true rfl (by omega)⟩
  · have cnt_ne_one : ch.cnt.toNat ≠ 1 := fun e => last (BitVec.eq_of_toNat_eq e)
    have counts : (k + 1) % cap.toNat = k % cap.toNat + 1 := by
      rw [← Nat.mod_add_mod, Nat.mod_eq_of_lt (by omega)]
    have down := Channel.transferred_cnt_toNat_add_one cap last (by omega)
    have notFilled : k + 1 ≠ cap.toNat := by
      intro e
      rw [e, Nat.mod_self] at counts
      omega
    have ftf : ch.ftf = true ↔ cap.toNat ≤ k + 1 := h.ftf.trans ⟨by omega, by omega⟩
    rw [Channel.transferred_of_not_last cap last] at down ⊢
    exact ⟨h.inited, by omega, ftf⟩

/-! ### The ring law over a run -/

theorem dxfers_cons (c : Chan) (i : Instr) (is : List Instr) :
    dxfers c (i :: is) = dxfers c [i] + dxfers c is := List.countP_append (l₁ := [i]) (l₂ := is)

theorem dxfers_singleton_self (c : Chan) : dxfers c [.evDxfer c] = 1 := by simp [dxfers]

theorem dxfers_singleton_of_ne {c : Chan} {i : Instr} (h : i ≠ .evDxfer c) : dxfers c [i] = 0 := by
  simp [dxfers, h]

theorem exec_ringAfter {i : Instr} {s t : State} {c : Chan} {k : Nat} (pos : 1 ≤ (s.cap c).toNat)
    (hk : (s.chan c).RingAfter (s.cap c) k) (hr : rearms c i = false) (h : exec i s = .next t) :
    (t.chan c).RingAfter (s.cap c) (k + dxfers c [i]) := by
  by_cases hx : i = .evDxfer c
  · subst hx
    rw [dxfers_singleton_self, exec_evDxfer_chan h]
    exact hk.transferred pos
  · rw [dxfers_singleton_of_ne hx]
    exact hk.of_sameRing (exec_sameRing hk.inited hr hx h)

/-- The ring law (R167 (a), (b)), from any number of transfers on. -/
theorem execAll_ringAfter {is : List Instr} {s t : State} {c : Chan} {k : Nat} (pos : 1 ≤ (s.cap c).toNat)
    (hk : (s.chan c).RingAfter (s.cap c) k) (hr : ∀ i ∈ is, rearms c i = false) (h : execAll is s = .next t) :
    (t.chan c).RingAfter (s.cap c) (k + dxfers c is) := by
  induction is generalizing s k with
  | nil =>
    cases h
    exact hk
  | cons i rest ih =>
    obtain ⟨u, hu, ht⟩ := execAll_cons_next h
    obtain ⟨hri, hrest⟩ := List.forall_mem_cons.mp hr
    have sameCap : u.cap c = s.cap c := by rw [State.cap, State.cap, exec_cfg hu]
    have next := exec_ringAfter pos hk hri hu
    rw [dxfers_cons, ← Nat.add_assoc]
    rw [← sameCap] at pos next ⊢
    exact ih pos next hrest ht

end Sys2Proof.Machine
end

section
/-! PROOFS. The frame-completion detector: DIDLE, DEXP and the full ring (43_frame_detector.md R191, R192, R194). -/

namespace Sys2Proof.Machine

theorem spells_evDidle (c : Chan) : spells (0xC000#16 ||| chField c) (.evDidle c) :=
  fun x y => (decode_event_word_without_arg 0xC#4 c x y).trans (decodeEvent_toBits c _ _)

theorem spells_evDexp (c : Chan) : spells (0xD000#16 ||| chField c) (.evDexp c) :=
  fun x y => (decode_event_word_without_arg 0xD#4 c x y).trans (decodeEvent_toBits c _ _)

/-- The detector's length, as the statements write it out. -/
theorem Channel.frameLen_eq (ch : Channel) (cap : Half) :
    ch.frameLen cap = if cap - ch.cnt = 0#16 ∧ ch.ftf = true then cap else cap - ch.cnt := rfl

/-! ### DIDLE (R191) -/

theorem exec_evDidle (c : Chan) (s : State) :
    exec (.evDidle c) s = whenEnabled (s.chan c).idlef (s.setChan c ((s.chan c).idleAction (s.cap c))).done := rfl

/-- A spurious idle arms nothing. -/
theorem Channel.idleAction_of_frameLen_eq_zero {ch : Channel} {cap : Half} (h : ch.frameLen cap = 0#16) :
    ch.idleAction cap = { ch with idlef := false, len := 0#16 } := by
  rw [Channel.idleAction, if_pos h, h]

theorem Channel.idleAction_of_frameLen_ne_zero {ch : Channel} {cap : Half} (h : ch.frameLen cap ≠ 0#16) :
    ch.idleAction cap = { ch with idlef := false, len := ch.frameLen cap, tcnt := 0#16, ten := true } := by
  rw [Channel.idleAction, if_neg h, Channel.armTimer_eq]

/-- Settles O50: an enabled DIDLE replaces the channel by `idleAction`, split by whether the length is 0. -/
theorem idleAction : Obligations.IdleAction := by
  intro s c
  refine ⟨spells_evDidle c, noNext_of_disabled (exec_evDidle c s), fun l pending hl => ?_⟩
  rw [← Channel.frameLen_eq] at hl
  subst hl
  have becomes := chanBecomes_setChan_done c ((s.chan c).idleAction (s.cap c)) s
  refine ⟨_, exec_of_enabled (exec_evDidle c s) pending, memSame_setChan_done c _ s, fun spurious => ?_,
    fun valid => ?_⟩
  · rwa [Channel.idleAction_of_frameLen_eq_zero spurious] at becomes ⊢
  · rwa [Channel.idleAction_of_frameLen_ne_zero valid] at becomes ⊢

/-! ### DEXP (R192) -/

theorem exec_evDexp (c : Chan) (s : State) :
    exec (.evDexp c) s = whenEnabled (s.chan c).upif
      ((s.storeByte (s.sentinelAddr c) sentinel).setChan c ((s.chan c).expiryAction (s.cap c))).done := rfl

/-- The sentinel's address is index `len` of the buffer, with nothing wrapping. -/
theorem State.sentinelAddr_toNat {s : State} {c : Chan} (hw : s.cfg.wf = true)
    (hc : (s.chan c).cnt.toNat ≤ (s.cap c).toNat) :
    (s.sentinelAddr c).toNat = s.cfg.bufLo c + ((s.chan c).frameLen (s.cap c)).toNat :=
  State.bufAddr_toNat hw c (Channel.frameLen_le hc)

/-- Settles O51: an enabled DEXP is a store at `sentinelAddr` and then `expiryAction`. -/
theorem expiryAction : Obligations.ExpiryAction := by
  intro s c
  refine ⟨spells_evDexp c, noNext_of_disabled (exec_evDexp c s), fun l hw pending le hl => ?_⟩
  rw [← Channel.frameLen_eq] at hl
  subst hl
  exact ⟨State.sentinelAddr_toNat hw le, _, exec_of_enabled (exec_evDexp c s) pending,
    s.storeByte_memByte_same _ sentinel, memSameBut_storeByte_setChan_done _ sentinel c _ s,
    chanBecomes_storeByte (chanBecomes_setChan_done c ((s.chan c).expiryAction (s.cap c)) _)⟩

/-! ### The full ring (R194) -/

/-- After exactly C transfers the count is back at C and FTF is set, which reads as the whole capacity. -/
theorem Channel.RingAfter.frameLen_eq_cap {ch : Channel} {cap : Half} (h : ch.RingAfter cap cap.toNat) :
    ch.cnt = cap ∧ ch.frameLen cap = cap := by
  have full : ch.cnt = cap := BitVec.eq_of_toNat_eq (by rw [h.cnt, Nat.mod_self, Nat.sub_zero])
  have ftf : ch.ftf = true := h.ftf.mpr le_rfl
  exact ⟨full, if_pos ⟨Channel.rawLen_eq_zero.mpr full, ftf⟩⟩

/-- Settles O53: the ring law gives the count and FTF of a full ring, and DEXP acts on the length they read as. -/
theorem fullRingReadsAsCapacity : Obligations.FullRingReadsAsCapacity := by
  intro s u c is hw fresh noRearm run transfers pending
  obtain ⟨pos, -⟩ := Config.wf_chan hw c
  have ring := execAll_ringAfter pos (fresh.ringAfter_zero pos) noRearm run
  have sameCfg : u.cfg = s.cfg := execAll_cfg run
  have sameCap : u.cap c = s.cap c := by rw [State.cap, State.cap, sameCfg]
  rw [transfers, Nat.zero_add] at ring
  rw [← sameCap] at ring ⊢
  rw [← sameCfg] at hw ⊢
  obtain ⟨full, len⟩ := ring.frameLen_eq_cap
  obtain ⟨-, -, acts⟩ := expiryAction u c
  obtain ⟨addr, t, ht, zero, sameBut, becomes, -⟩ :=
    acts (u.cap c) hw pending (full ▸ le_rfl) (len.symm.trans (Channel.frameLen_eq _ _))
  rw [addr] at zero sameBut
  exact ⟨t, ht, by rw [becomes], zero, sameBut⟩

end Sys2Proof.Machine
end

section
/-! PROOFS. Register accesses that fault: narrow, wrong-way and reserved ones (44_host_interface.md R213, R215-R217,
R226; 40_time_base.md R144, R152). -/

namespace Sys2Proof.Machine

/-! ### Operations that only fault -/

/-- What `raiseFault` does is what the statements call a fault that has no other effect (60_exceptions.md R301). -/
theorem onlyFaults_raiseFault (code : FaultCode) (s : State) : OnlyFaults code s (raiseFault code s) :=
  ⟨s.faults.has_add code, rfl, fun _ => ⟨rfl, rfl⟩, fun _ => rfl, rfl, rfl, rfl, rfl⟩

theorem exec_onlyFaults {i : Instr} {s : State} {code : FaultCode} (h : exec i s = .next (raiseFault code s)) :
    ∃ t, exec i s = .next t ∧ OnlyFaults code s t :=
  ⟨_, h, onlyFaults_raiseFault code s⟩

/-! ### The words of the register accesses (30_encoding.md R101, R104) -/

theorem decode_packWord (cls : BitVec 4) (ch sz : BitVec 2) (arg : Byte) (a b : Word) :
    decode ⟨packWord cls ch sz arg, a, b⟩ = decodeFields (Cls.ofBits cls) ch sz arg a b := by
  simp [decode]

/-- The 32-bit write of register `reg` of channel `c`, field by field. -/
theorem wrCh_word_eq_packWord (c : Chan) (reg : BitVec 4) :
    0x0200#16 ||| reg.setWidth 16 ||| chField c = packWord 0#4 c.toBits 2#2 (regArg reg) := by
  cases c <;> (revert reg; decide)

theorem spellsWith_wrCh (c : Chan) (reg : BitVec 4) (data : Word) :
    spellsWith (0x0200#16 ||| reg.setWidth 16 ||| chField c) data (decodeWrCh c reg data) := by
  intro b
  rw [wrCh_word_eq_packWord, decode_packWord]
  simp [decodeFields, Cls.ofBits, decodeCwr, Size.ofBits]

/-! ### Narrow accesses (R226) -/

theorem Chan.exists_ofBits_of_ne {ch : BitVec 2} (h : ch ≠ 3#2) : ∃ c, Chan.ofBits ch = some c :=
  Option.ne_none_iff_exists'.mp (mt Chan.ofBits_eq_none.mp h)

theorem Size.ofBits_of_lt {sz : BitVec 2} (h : sz < 2#2) :
    Size.ofBits sz = some .byte ∨ Size.ofBits sz = some .half := by
  revert sz; decide

theorem cls_of_lt_four {cls : BitVec 4} (h : cls < 4#4) : cls = 0#4 ∨ cls = 1#4 ∨ cls = 2#4 ∨ cls = 3#4 := by
  revert cls; decide

/-- SZ = 00 or 01 decides a register access before its register is looked at; only classes 0 and 1 read CH. -/
theorem exec_decode_narrow {cls : BitVec 4} {ch sz : BitVec 2} (arg : Byte) (a b : Word) (s : State)
    (hcls : cls < 4#4) (hsz : sz < 2#2) (hch : cls < 2#4 → ch ≠ 3#2) :
    exec (decode ⟨packWord cls ch sz arg, a, b⟩) s = .next (raiseFault .badWidth s) := by
  rw [decode_packWord]
  have size := Size.ofBits_of_lt hsz
  obtain rfl | rfl | rfl | rfl := cls_of_lt_four hcls
  · obtain ⟨c, hc⟩ := Chan.exists_ofBits_of_ne (hch (by decide))
    rcases size with hz | hz <;> simp only [decodeFields, Cls.ofBits, decodeCwr, hc, hz] <;> rfl
  · obtain ⟨c, hc⟩ := Chan.exists_ofBits_of_ne (hch (by decide))
    rcases size with hz | hz <;> simp only [decodeFields, Cls.ofBits, decodeCrd, hc, hz] <;> rfl
  · rcases size with hz | hz <;> simp only [decodeFields, Cls.ofBits, decodeTwr, hz] <;> rfl
  · rcases size with hz | hz <;> simp only [decodeFields, Cls.ofBits, decodeTrd, hz] <;> rfl

/-- The register window of a well-formed configuration (00_scope.md R7). -/
theorem Config.wf_window {cfg : Config} (h : cfg.wf = true) :
    cfg.winHi < 2 ^ 32 ∧ cfg.blkBase.toNat % 0x100 = 0 := by
  simp only [Config.wf, Bool.and_eq_true, decide_eq_true_eq] at h
  omega

theorem inWindow_iff {cfg : Config} {a : Word} : inWindow cfg a = true ↔ cfg.winLo ≤ a.toNat ∧ a.toNat ≤ cfg.winHi := by
  simp [inWindow]

theorem busToWord_of_misfit {cfg : Config} {a : BusAccess} (legal : a.width = 1 ∨ a.width = 2 ∨ a.width = 4)
    (inside : inWindow cfg a.addr = true) (misfit : a.width ≠ 4 ∨ (a.addr - cfg.blkBase).toNat % 4 ≠ 0) :
    busToWord cfg a = .fault .badWidth := by
  rw [busToWord, if_neg (by tauto), if_pos inside, if_pos misfit]

theorem step_of_bus_fault {s : State} {a : BusAccess} {rest : List Request} {code : FaultCode}
    (hs : s.sched = .bus a :: rest) (h : busToWord s.cfg a = .fault code) :
    step s = .next (raiseFault code (s.withSched rest)) := by
  simp [step, hs, translateRequest, h]

/-- The window starts at a multiple of 256, so an offset in it is aligned exactly where the address is. -/
theorem Config.windowOffset_mod_four {cfg : Config} {a : Word} (hw : cfg.wf = true) (lo : cfg.winLo ≤ a.toNat) :
    (a - cfg.blkBase).toNat % 4 = a.toNat % 4 := by
  obtain ⟨-, aligned⟩ := Config.wf_window hw
  have offset : (a - cfg.blkBase).toNat = a.toNat - cfg.blkBase.toNat := BitVec.toNat_sub_of_le lo
  rw [Config.winLo] at lo
  omega

/-- Settles O22: at each level, instruction, word and bus, the access answers `raiseFault .badWidth`. -/
theorem narrowRegisterAccessFaults : Obligations.NarrowRegisterAccessFaults := by
  refine ⟨fun s c reg data => ?_, fun s cls ch sz arg a b hcls hsz hch =>
    exec_onlyFaults (exec_decode_narrow arg a b s hcls hsz hch), fun s a rest hw hs lo hi misfit => ?_⟩
  · intro i mem
    fin_cases mem <;> exact exec_onlyFaults rfl
  · rw [← Config.windowOffset_mod_four hw lo] at misfit
    have faults := busToWord_of_misfit (a := a) (by tauto) (inWindow_iff.mpr ⟨lo, hi⟩) (by omega)
    exact ⟨_, step_of_bus_fault hs faults, onlyFaults_raiseFault _ _⟩

/-! ### Wrong-way accesses (R213, R215, R217, R144) -/

/-- A value of CMD that is no command (R108, R213). -/
theorem decodeWrCh_cmd_bad (c : Chan) {data : Word} (h1 : data ≠ 1#32) (h2 : data ≠ 2#32) (h3 : data ≠ 3#32) :
    decodeWrCh c 0#4 data = .cmdBad c data := by
  simp [decodeWrCh, h1, h2, h3]

/-- Settles O23: the words are those of `decodeWrCh`, `decodeWrTb` and `decodeRdCh`, and each operation answers
`raiseFault`. -/
theorem wrongWayRegisterAccessFaults : Obligations.WrongWayRegisterAccessFaults := by
  intro s c data
  refine ⟨fun h1 h2 h3 => ⟨?_, exec_onlyFaults rfl⟩, ⟨spellsWith_wrCh c 1#4 data, spellsWith_wrCh c 2#4 data,
    spellsWith_wrCh c 3#4 data, spellsWith_wrCh c 5#4 data, spellsWith_wrCh c 6#4 data, spellsWith_wrCh c 7#4 data,
    spellsWith_wrCh c 8#4 data, spellsWith_wrTb 2#4 data, spells_rdCh c 0#4⟩, ?_, exec_onlyFaults rfl⟩
  · rw [← decodeWrCh_cmd_bad c h1 h2 h3]
    exact spellsWith_wrCh c 0#4 data
  · intro i mem
    fin_cases mem <;> exact exec_onlyFaults rfl

/-! ### Reserved registers (R216, R152) -/

theorem reg_of_nine_le {reg : BitVec 4} (h : 9#4 ≤ reg) :
    reg = 9#4 ∨ reg = 10#4 ∨ reg = 11#4 ∨ reg = 12#4 ∨ reg = 13#4 ∨ reg = 14#4 ∨ reg = 15#4 := by
  revert reg; decide

theorem reg_of_five_le {reg : BitVec 4} (h : 5#4 ≤ reg) :
    reg = 5#4 ∨ reg = 6#4 ∨ reg = 7#4 ∨ reg = 8#4 ∨ 9#4 ≤ reg := by
  revert reg; decide

theorem exec_decodeWrCh_reserved {reg : BitVec 4} (h : 9#4 ≤ reg) (c : Chan) (data : Word) (s : State) :
    exec (decodeWrCh c reg data) s = .next (raiseFault .badReg s) := by
  obtain rfl | rfl | rfl | rfl | rfl | rfl | rfl := reg_of_nine_le h <;> rfl

theorem exec_decodeRdCh_reserved {reg : BitVec 4} (h : 9#4 ≤ reg) (c : Chan) (s : State) :
    exec (decodeRdCh c reg) s = .next (raiseFault .badReg s) := by
  obtain rfl | rfl | rfl | rfl | rfl | rfl | rfl := reg_of_nine_le h <;> rfl

theorem exec_decodeWrTb_reserved {reg : BitVec 4} (h : 5#4 ≤ reg) (data : Word) (s : State) :
    exec (decodeWrTb reg data) s = .next (raiseFault .badReg s) := by
  obtain rfl | rfl | rfl | rfl | h9 := reg_of_five_le h
  · rfl
  · rfl
  · rfl
  · rfl
  · obtain rfl | rfl | rfl | rfl | rfl | rfl | rfl := reg_of_nine_le h9 <;> rfl

theorem exec_decodeRdTb_reserved {reg : BitVec 4} (h : 5#4 ≤ reg) (s : State) :
    exec (decodeRdTb reg) s = .next (raiseFault .badReg s) := by
  obtain rfl | rfl | rfl | rfl | h9 := reg_of_five_le h
  · rfl
  · rfl
  · rfl
  · rfl
  · obtain rfl | rfl | rfl | rfl | rfl | rfl | rfl := reg_of_nine_le h9 <;> rfl

/-- The statement writes the register last in the word, the lemmas about the words write the channel last. -/
theorem word_or_chField_or_reg (base : BitVec 16) (c : Chan) (reg : BitVec 4) :
    base ||| chField c ||| reg.setWidth 16 = base ||| reg.setWidth 16 ||| chField c := by
  rw [BitVec.or_assoc, BitVec.or_comm (chField c), ← BitVec.or_assoc]

/-- Settles O24: each word decodes by its register table, which names only reserved rows from 9 (5) on. -/
theorem reservedRegisterFaults : Obligations.ReservedRegisterFaults := by
  refine ⟨fun s c reg a b => ⟨fun h => ?_, fun h => ?_⟩, fun s c reg data => ?_⟩
  · simp only [List.forall_mem_cons, word_or_chField_or_reg, spellsWith_wrCh c reg a b, spells_rdCh c reg a b]
    exact ⟨exec_onlyFaults (exec_decodeWrCh_reserved h c a s), exec_onlyFaults (exec_decodeRdCh_reserved h c s), nofun⟩
  · simp only [List.forall_mem_cons, spellsWith_wrTb reg a b, spells_rdTb reg a b]
    exact ⟨exec_onlyFaults (exec_decodeWrTb_reserved h a s), exec_onlyFaults (exec_decodeRdTb_reserved h s), nofun⟩
  · intro i mem
    fin_cases mem <;> exact exec_onlyFaults rfl

end Sys2Proof.Machine
end

section
/-! PROOFS. The commands INIT, RESET and PRST (44_host_interface.md R210-R212). -/

namespace Sys2Proof

/-- Offset of channel `c`'s register block in the window: 64 bytes a channel (10_state.md R48). -/
def Chan.blockOffset (c : Chan) : Word := 0x40#32 * c.toBits.setWidth 32

theorem Chan.blockOffset_le (c : Chan) : c.blockOffset.toNat ≤ 0x80 := by
  cases c <;> decide

theorem Chan.blockOffset_mod_four (c : Chan) : c.blockOffset.toNat % 4 = 0 := by
  cases c <;> rfl

end Sys2Proof

namespace Sys2Proof.Machine

/-! ### What each command does -/

theorem exec_cmdInit_of_not_inited {c : Chan} {s : State} (h : (s.chan c).inited = false) :
    exec (.cmdInit c) s = .next (s.setChan c ((s.chan c).afterInit (s.cap c))).done := by
  simp [exec, execCmdInit, h]

theorem exec_cmdInit_of_inited {c : Chan} {s : State} (h : (s.chan c).inited = true) :
    exec (.cmdInit c) s = .next (raiseFault .initArmed s) := by
  simp [exec, execCmdInit, h]

theorem exec_cmdReset_of_inited {c : Chan} {s : State} (h : (s.chan c).inited = true) :
    exec (.cmdReset c) s = .next (s.setChan c ((s.chan c).afterReset (s.cap c))).done := by
  simp [exec, execCmdReset, h]

theorem exec_cmdReset_of_not_inited {c : Chan} {s : State} (h : (s.chan c).inited = false) :
    exec (.cmdReset c) s = .next (raiseFault .notInit s) := by
  simp [exec, execCmdReset, h]

theorem exec_cmdPrst (c : Chan) (s : State) : exec (.cmdPrst c) s = .next (s.setChan c Channel.powerOn).done := rfl

/-! ### What each command leaves (10_state.md R45, R49) -/

/-- INIT leaves nothing of the channel's past but BAUD. -/
theorem Channel.afterInit_eq (ch : Channel) (cap : Half) :
    ch.afterInit cap =
      { inited := true, baud := ch.baud, baudAct := ch.baud, hold := none, orerr := false, idleSeen := false,
        idlef := false, den := true, cnt := cap, ftf := false, derr := false, ten := false, tcnt := 0#16,
        upif := false, len := 0#16, cflag := 0#2 } := rfl

theorem Channel.frameState_afterInit (ch : Channel) (cap : Half) : (ch.afterInit cap).frameState = .idle := rfl

/-- After INIT the host reads INITED and DEN as 1 and every other flag as 0. -/
theorem Channel.statWord_afterInit (ch : Channel) (cap : Half) : (ch.afterInit cap).statWord = 0x420#32 := by
  simp [Channel.statWord, Channel.afterInit_eq, Channel.rbne, flagBit]

theorem Channel.afterReset_eq {ch : Channel} (cap : Half) (h : ch.inited = true) :
    ch.afterReset cap =
      { inited := true, baud := ch.baud, baudAct := ch.baudAct, hold := ch.hold, orerr := false,
        idleSeen := ch.idleSeen, idlef := false, den := true, cnt := cap, ftf := false, derr := false, ten := false,
        tcnt := 0#16, upif := false, len := 0#16, cflag := 0#2 } := by
  rw [Channel.afterReset, Channel.disarmTimer_eq, Channel.armDma_eq, h]

theorem Channel.frameState_afterReset {ch : Channel} (cap : Half) (h : ch.inited = true) :
    (ch.afterReset cap).frameState = .idle := by
  rw [Channel.afterReset_eq cap h]
  rfl

/-! ### The bus access of a command (30_encoding.md R105) -/

theorem busToWord_of_fit {cfg : Config} {a : BusAccess} (width : a.width = 4) (inside : inWindow cfg a.addr = true)
    (aligned : (a.addr - cfg.blkBase).toNat % 4 = 0) : busToWord cfg a = .op (windowWord cfg a) := by
  rw [busToWord, if_neg (by tauto), if_pos inside, if_neg (by tauto)]

theorem windowWord_write_cmd (cfg : Config) (c : Chan) (data : Word) :
    windowWord cfg ⟨.write, cfg.blkBase + c.blockOffset, 4, data⟩ =
      ⟨packWord 0#4 c.toBits 2#2 (regArg 0#4), data, 0#32⟩ := by
  have offset : cfg.blkBase + c.blockOffset - cfg.blkBase = c.blockOffset := by
    rw [BitVec.add_comm, BitVec.add_sub_cancel]
  rw [windowWord, offset]
  cases c <;> rfl

/-- A word written at the base of channel `c`'s block is a write of its CMD register. -/
theorem busToWord_write_cmd {cfg : Config} (hw : cfg.wf = true) (c : Chan) (data : Word) :
    busToWord cfg ⟨.write, cfg.blkBase + c.blockOffset, 4, data⟩ = .op ⟨0x0200#16 ||| chField c, data, 0#32⟩ := by
  obtain ⟨fits, -⟩ := Config.wf_window hw
  have le := c.blockOffset_le
  rw [Config.winHi] at fits
  have addr : (cfg.blkBase + c.blockOffset).toNat = cfg.blkBase.toNat + c.blockOffset.toNat :=
    BitVec.toNat_add_of_lt (by omega)
  have lo : cfg.winLo ≤ (cfg.blkBase + c.blockOffset).toNat := by rw [addr, Config.winLo]; omega
  have hi : (cfg.blkBase + c.blockOffset).toNat ≤ cfg.winHi := by rw [addr, Config.winHi]; omega
  rw [busToWord_of_fit rfl (inWindow_iff.mpr ⟨lo, hi⟩), windowWord_write_cmd, ← wrCh_word_eq_packWord]
  · rfl
  · rw [BitVec.add_comm, BitVec.add_sub_cancel]
    exact c.blockOffset_mod_four

/-! ### The commands -/

/-- Settles O25: INIT replaces the channel by `afterInit`, or faults where it is already initialised. -/
theorem initArmsTheChannel : Obligations.InitArmsTheChannel := by
  intro s c
  refine ⟨spellsWith_wrCh c 0#4 1#32, fun hw => busToWord_write_cmd hw c 1#32, fun off => ?_, fun on =>
    exec_onlyFaults (exec_cmdInit_of_inited on)⟩
  refine ⟨_, exec_cmdInit_of_not_inited off, ?_, memSame_setChan_done c _ s, ?_, ?_⟩
  · rw [← Channel.afterInit_eq]
    exact chanBecomes_setChan_done c _ s
  · rw [State.done_chan, State.setChan_chan_same, Channel.frameState_afterInit]
  · rw [State.done_chan, State.setChan_chan_same, Channel.statWord_afterInit]

/-- Settles O26: RESET replaces the channel by `afterReset`, or faults where it is not initialised. -/
theorem resetRearmsTheChannel : Obligations.ResetRearmsTheChannel := by
  intro s c
  refine ⟨spellsWith_wrCh c 0#4 2#32, fun on => ?_, fun off => exec_onlyFaults (exec_cmdReset_of_not_inited off)⟩
  refine ⟨_, exec_cmdReset_of_inited on, ?_, memSame_setChan_done c _ s, ?_⟩
  · rw [← Channel.afterReset_eq (s.cap c) on]
    exact chanBecomes_setChan_done c _ s
  · rw [State.done_chan, State.setChan_chan_same, Channel.frameState_afterReset _ on]

/-- Settles O27: PRST puts the channel at its power-on value, which is the one it has in the reset state. -/
theorem prstReturnsTheChannelToPowerOn : Obligations.PrstReturnsTheChannelToPowerOn := by
  intro s c
  have power : State.reset.chan c = Channel.powerOn := State.powerOn_chan _ c
  refine ⟨spellsWith_wrCh c 0#4 3#32, _, exec_cmdPrst c s, ?_, memSame_setChan_done c _ s, ?_⟩
  · rw [power]
    exact chanBecomes_setChan_done c _ s
  · rw [State.done_chan, State.setChan_chan_same]
    rfl

end Sys2Proof.Machine
end

section
/-! PROOFS. The channel registers that are stored and read back (44_host_interface.md R214, R219-R225). -/

namespace Sys2Proof.Machine

theorem exec_wrChBaud (c : Chan) (data : Word) (s : State) :
    exec (.wrChBaud c data) s = .next (s.setChan c { s.chan c with baud := data }).done := rfl

/-- Settles O30: the write replaces the channel's BAUD and nothing else. -/
theorem baudWriteStoresTheValue : Obligations.BaudWriteStoresTheValue := fun s c data =>
  ⟨spellsWith_wrCh c 4#4 data, _, exec_wrChBaud c data s, chanBecomes_setChan_done c _ s, memSame_setChan_done c _ s⟩

theorem exec_rdChLen (c : Chan) (s : State) : exec (.rdChLen c) s = .next (s.returns (halfWord (s.chan c).len)) := rfl

theorem exec_rdChCnt (c : Chan) (s : State) : exec (.rdChCnt c) s = .next (s.returns (halfWord (s.chan c).cnt)) := rfl

theorem exec_rdChBaud (c : Chan) (s : State) : exec (.rdChBaud c) s = .next (s.returns (s.chan c).baud) := rfl

theorem exec_rdChTcnt (c : Chan) (s : State) :
    exec (.rdChTcnt c) s = .next (s.returns (halfWord (s.chan c).tcnt)) := rfl

theorem exec_rdChCap (c : Chan) (s : State) : exec (.rdChCap c) s = .next (s.returns (halfWord (s.cap c))) := rfl

theorem exec_rdChBuf (c : Chan) (s : State) : exec (.rdChBuf c) s = .next (s.returns (s.buf c)) := rfl

theorem exec_rdChTper (c : Chan) (s : State) : exec (.rdChTper c) s = .next (s.returns (tperWord (s.tper c))) := rfl

/-- Zero-extension keeps the number (10_state.md R48). -/
theorem halfWord_toNat (v : Half) : (halfWord v).toNat = v.toNat :=
  BitVec.toNat_setWidth_of_le (by decide)

theorem tperWord_toNat (v : BitVec 17) : (tperWord v).toNat = v.toNat :=
  BitVec.toNat_setWidth_of_le (by decide)

/-- Settles O32: each read returns its field or parameter, zero-extended, and changes nothing else. -/
theorem channelRegistersReadBack : Obligations.ChannelRegistersReadBack := fun s c =>
  ⟨⟨spells_rdCh c 2#4, spells_rdCh c 3#4, spells_rdCh c 4#4, spells_rdCh c 5#4, spells_rdCh c 6#4, spells_rdCh c 7#4,
      spells_rdCh c 8#4⟩,
    ⟨_, _, exec_rdChLen c s, onlyReturns_returns _ s, halfWord_toNat _⟩,
    ⟨_, _, exec_rdChCnt c s, onlyReturns_returns _ s, halfWord_toNat _⟩,
    ⟨_, exec_rdChBaud c s, onlyReturns_returns _ s⟩,
    ⟨_, _, exec_rdChTcnt c s, onlyReturns_returns _ s, halfWord_toNat _⟩,
    ⟨_, _, exec_rdChCap c s, onlyReturns_returns _ s, halfWord_toNat _⟩,
    ⟨_, exec_rdChBuf c s, onlyReturns_returns _ s⟩,
    ⟨_, _, exec_rdChTper c s, onlyReturns_returns _ s, tperWord_toNat _⟩⟩

end Sys2Proof.Machine
end

section
/-! PROOFS. Host accesses to buffer memory (44_host_interface.md R227, R228; 20_memory.md R73, R75). -/

namespace Sys2Proof.Machine

/-- What `refuse` does is what the statements call a refusal that has no other effect (30_encoding.md R112). -/
theorem onlyRefuses_refuse (why : RefusalReason) (s : State) : OnlyRefuses why s (refuse why s) :=
  ⟨rfl, rfl, fun _ => ⟨rfl, rfl⟩, fun _ => rfl, rfl, rfl, rfl, rfl⟩

/-! ### The words of the buffer accesses (30_encoding.md R101, R103) -/

/-- The word of a buffer access of size `z`, field by field; its SZ field is half the number of bytes. -/
theorem buffer_word_eq_packWord (cls : BitVec 4) (ch : BitVec 2) (z : Size) :
    cls.setWidth 16 <<< 12 ||| ch.setWidth 16 <<< 10 ||| BitVec.ofNat 16 (z.bytes / 2) <<< 8 =
      packWord cls ch z.toBits 0#8 := by
  cases z <;> (revert cls ch; decide)

theorem spellsWith_decodeMrd (z : Size) (ch : BitVec 2) (a : Word) :
    spellsWith (0x4000#16 ||| ch.setWidth 16 <<< 10 ||| BitVec.ofNat 16 (z.bytes / 2) <<< 8) a
      (decodeMrd ch z.toBits 0#8 a) := by
  intro b
  rw [show 0x4000#16 = (4#4).setWidth 16 <<< 12 from rfl, buffer_word_eq_packWord, decode_packWord]
  rfl

theorem decode_mwr_word (z : Size) (ch : BitVec 2) (a data : Word) :
    decode ⟨0x5000#16 ||| ch.setWidth 16 <<< 10 ||| BitVec.ofNat 16 (z.bytes / 2) <<< 8, a, data⟩ =
      decodeMwr ch z.toBits 0#8 a data := by
  rw [show 0x5000#16 = (5#4).setWidth 16 <<< 12 from rfl, buffer_word_eq_packWord, decode_packWord]
  rfl

theorem exec_decodeMrd (z : Size) (ch : BitVec 2) (arg : Byte) (a : Word) (s : State) :
    exec (decodeMrd ch z.toBits arg a) s = .next (hostLoad z a s) := by
  cases z <;> rfl

theorem exec_decodeMwr (z : Size) (ch : BitVec 2) (arg : Byte) (a data : Word) (s : State) :
    exec (decodeMwr ch z.toBits arg a data) s = .next (hostStore z a s) := by
  cases z <;> rfl

/-! ### The region check (30_encoding.md R105) -/

theorem findBuf_eq_none_iff {cfg : Config} {a : Word} {n : Nat} :
    findBuf cfg a n = none ↔ ∀ c, ¬ (cfg.bufLo c ≤ a.toNat ∧ a.toNat + n ≤ cfg.bufHi c + 1) := by
  simp only [findBuf_eq_none, inBuf, Bool.and_eq_false_iff, decide_eq_false_iff_not, not_and_or]

theorem findBuf_ne_none {cfg : Config} {a : Word} {n : Nat} {c : Chan} (lo : cfg.bufLo c ≤ a.toNat)
    (hi : a.toNat + n ≤ cfg.bufHi c + 1) : findBuf cfg a n ≠ none :=
  fun outside => findBuf_eq_none_iff.mp outside c ⟨lo, hi⟩

/-! ### Reading little-endian (20_memory.md R73) -/

/-- The bytes from `a` on, each weighted by its place. -/
theorem Memory.readLe_eq_sum (m : Memory) (a n : Nat) :
    m.readLe a n = ∑ k ∈ Finset.range n, (m.byteAt (a + k)).toNat * 2 ^ (8 * k) := by
  induction n generalizing a with
  | zero => rfl
  | succ n ih =>
    rw [Memory.readLe, ih, Finset.sum_range_succ', Finset.mul_sum, Nat.add_comm]
    congr 1
    · refine Finset.sum_congr rfl fun k _ => ?_
      rw [show a + 1 + k = a + (k + 1) by omega, show 8 * (k + 1) = 8 * k + 8 by omega, Nat.pow_add]
      ring
    · simp

theorem Memory.readLe_lt (m : Memory) (a n : Nat) : m.readLe a n < 256 ^ n := by
  induction n generalizing a with
  | zero => exact Nat.one_pos
  | succ n ih =>
    have low : (m.byteAt a).toNat < 256 := (m.byteAt a).isLt
    have high := ih (a + 1)
    rw [Memory.readLe, Nat.pow_succ]
    omega

/-- A read of at most 4 bytes fits the 32-bit value it returns. -/
theorem Memory.readLe_fits (m : Memory) (a : Nat) (z : Size) : m.readLe a z.bytes < 2 ^ 32 := by
  have le : z.bytes ≤ 4 := by cases z <;> decide
  calc m.readLe a z.bytes < 256 ^ z.bytes := m.readLe_lt a z.bytes
    _ ≤ 256 ^ 4 := Nat.pow_le_pow_right (by decide) le

/-! ### What a host access does, case by case (R227, R228) -/

section
variable {z : Size} {a : Word} {s : State}

theorem hostLoad_of_outside (h : findBuf s.cfg a z.bytes = none) : hostLoad z a s = refuse .outside s := by
  simp [hostLoad, h]

theorem hostLoad_of_misaligned (h : findBuf s.cfg a z.bytes ≠ none) (misaligned : a.toNat % z.bytes ≠ 0) :
    hostLoad z a s = raiseFault .bufAlign s := by
  simp [hostLoad, h, misaligned]

theorem hostLoad_of_aligned (h : findBuf s.cfg a z.bytes ≠ none) (aligned : a.toNat % z.bytes = 0) :
    hostLoad z a s = s.returns (BitVec.ofNat 32 (s.mem.readLe a.toNat z.bytes)) := by
  simp [hostLoad, h, aligned]

theorem hostStore_of_outside (h : findBuf s.cfg a z.bytes = none) : hostStore z a s = refuse .outside s := by
  simp [hostStore, h]

theorem hostStore_of_inside (h : findBuf s.cfg a z.bytes ≠ none) : hostStore z a s = raiseFault .bufWrite s := by
  simp [hostStore, h]

end

/-! ### The accesses -/

/-- Settles O39: the three loads are one operation `hostLoad` over the sizes, split by region and alignment. -/
theorem bufferReadIsLittleEndian : Obligations.BufferReadIsLittleEndian := by
  intro s ch a i n load
  obtain ⟨z, rfl, rfl⟩ : ∃ z : Size, i = decodeMrd ch z.toBits 0#8 a ∧ n = z.bytes := by
    obtain ⟨rfl, rfl⟩ | ⟨rfl, rfl⟩ | ⟨rfl, rfl⟩ := load
    · exact ⟨.byte, rfl, rfl⟩
    · exact ⟨.half, rfl, rfl⟩
    · exact ⟨.word, rfl, rfl⟩
  have run := exec_decodeMrd z ch 0#8 a s
  refine ⟨spellsWith_decodeMrd z ch a, fun c lo hi => ⟨fun aligned => ?_, fun misaligned => ?_⟩, fun outside => ?_⟩
  · rw [hostLoad_of_aligned (findBuf_ne_none lo hi) aligned] at run
    refine ⟨_, _, run, onlyReturns_returns _ s, ?_⟩
    rw [BitVec.toNat_ofNat, Nat.mod_eq_of_lt (s.mem.readLe_fits _ z), Memory.readLe_eq_sum]
    rfl
  · rw [hostLoad_of_misaligned (findBuf_ne_none lo hi) misaligned] at run
    exact exec_onlyFaults run
  · rw [hostLoad_of_outside (findBuf_eq_none_iff.mpr outside)] at run
    exact ⟨_, run, onlyRefuses_refuse _ s⟩

/-- Settles O40: the three stores are one operation `hostStore` over the sizes, split by region alone. -/
theorem bufferWriteFaults : Obligations.BufferWriteFaults := by
  intro s ch a data i n store
  obtain ⟨z, rfl, rfl⟩ : ∃ z : Size, i = decodeMwr ch z.toBits 0#8 a data ∧ n = z.bytes := by
    obtain ⟨rfl, rfl⟩ | ⟨rfl, rfl⟩ | ⟨rfl, rfl⟩ := store
    · exact ⟨.byte, rfl, rfl⟩
    · exact ⟨.half, rfl, rfl⟩
    · exact ⟨.word, rfl, rfl⟩
  have run := exec_decodeMwr z ch 0#8 a data s
  refine ⟨decode_mwr_word z ch a data, fun c lo hi => ?_, fun outside => ?_⟩
  · rw [hostStore_of_inside (findBuf_ne_none lo hi)] at run
    exact exec_onlyFaults run
  · rw [hostStore_of_outside (findBuf_eq_none_iff.mpr outside)] at run
    exact ⟨_, run, onlyRefuses_refuse _ s⟩

end Sys2Proof.Machine
end

section
/-! PROOFS. Power-on (70_reset_and_hazards.md R340). -/

namespace Sys2Proof.Machine

/-! ### The state at power-on -/

@[simp] theorem FaultSet.has_empty (d : FaultCode) : FaultSet.empty.has d = false := by
  cases d <;> rfl

theorem State.reset_chan (c : Chan) : State.reset.chan c = Channel.powerOn := State.powerOn_chan _ c

theorem State.reset_tb : State.reset.tb = TimeBase.powerOn := State.powerOn_tb _

/-! ### The register views at power-on -/

/-- A read that returns a register's word tells the host any value that word is known to have. -/
theorem reports_of_exec_returns {i : Instr} {s : State} {v w : Word} (run : exec i s = .next (s.returns v))
    (word : v = w) : ∃ t, exec i s = .next t ∧ t.report = .value w :=
  ⟨_, run, by rw [State.returns_report, word]⟩

/-- The registers that show a channel's fields read 0 on a channel at its power-on value. -/
theorem channelReads_zero_of_powerOn {c : Chan} {s : State} (h : s.chan c = Channel.powerOn) :
    ∀ i ∈ [Instr.rdChStat c, .rdChLen c, .rdChCnt c, .rdChTcnt c, .rdChBaud c],
      ∃ t, exec i s = .next t ∧ t.report = .value 0#32 := by
  simp only [List.forall_mem_cons]
  refine ⟨reports_of_exec_returns (exec_rdChStat c s) ?_, reports_of_exec_returns (exec_rdChLen c s) ?_,
    reports_of_exec_returns (exec_rdChCnt c s) ?_, reports_of_exec_returns (exec_rdChTcnt c s) ?_,
    reports_of_exec_returns (exec_rdChBaud c s) ?_, nofun⟩ <;> rw [h] <;> rfl

/-- The five time-base registers read 0 on a time base at its power-on value. -/
theorem timeBaseReads_zero_of_powerOn {s : State} (h : s.tb = TimeBase.powerOn) :
    ∀ i ∈ [Instr.rdTbCtrl, .rdTbLoad, .rdTbVal, .rdTbCal, .rdTbQuant],
      ∃ t, exec i s = .next t ∧ t.report = .value 0#32 := by
  simp only [List.forall_mem_cons]
  refine ⟨reports_of_exec_returns (exec_rdTbCtrl s) ?_, reports_of_exec_returns (exec_rdTbLoad s) ?_,
    reports_of_exec_returns (exec_rdTbVal s) ?_, reports_of_exec_returns (exec_rdTbCal s) ?_,
    reports_of_exec_returns (exec_rdTbQuant s) ?_, nofun⟩ <;> rw [h] <;> rfl

/-- Settles O9: the fields are those of `State.powerOn`; a register view is 0 where its field is, and the parameter
where it shows one. -/
theorem powerOnIsAsStated : Obligations.PowerOnIsAsStated := by
  refine ⟨State.reset_chan, State.reset_tb, FaultSet.has_empty, State.powerOn_refused _, State.powerOn_memByte _,
    fun c i read => ?_,
    fun c => reports_of_exec_returns (exec_rdChCap c _) rfl,
    fun c => reports_of_exec_returns (exec_rdChBuf c _) rfl,
    fun c => reports_of_exec_returns (exec_rdChTper c _) rfl⟩
  obtain ofChannel | ofTimeBase := List.mem_append (s := [Instr.rdChStat c, .rdChLen c, .rdChCnt c, .rdChTcnt c,
    .rdChBaud c]).mp read
  · exact channelReads_zero_of_powerOn (State.reset_chan c) i ofChannel
  · exact timeBaseReads_zero_of_powerOn State.reset_tb i ofTimeBase

end Sys2Proof.Machine
end

section
/-! PROOFS. What an operation that answers a next state did, part by part of the state: one channel, the memory, the
time base and the marks. -/

namespace Sys2Proof.Machine

/-! ### One channel -/

/-- Is the operation a step of the DMA, the frame timer or the detector of channel `c` (10_state.md R22)? -/
def Instr.ownStep (c : Chan) (i : Instr) : Prop :=
  i.agent = some (.dma c) ∨ i.agent = some (.frameTimer c) ∨ i.agent = some (.detector c)

theorem not_ownStep_of_agent_host {c : Chan} {i : Instr} (h : i.agent = some .host) : ¬ Instr.ownStep c i := by
  simp [Instr.ownStep, h]

theorem not_ownStep_of_agent_none {c : Chan} {i : Instr} (h : i.agent = none) : ¬ Instr.ownStep c i := by
  simp [Instr.ownStep, h]

/-- What an operation can do to channel `c`, with what enabled it: `Effect` seen from one channel. An operation that
leaves the channel alone was no step of the channel's own agents. -/
inductive ChanStep (cfg : Config) (c : Chan) (x : Channel) : Instr → Channel → Prop where
  | same {i} (other : ¬ Instr.ownStep c i) : ChanStep cfg c x i x
  | init (off : x.inited = false) : ChanStep cfg c x (.cmdInit c) (x.afterInit (cfg.ch.get c).cap)
  | reset (on : x.inited = true) : ChanStep cfg c x (.cmdReset c) (x.afterReset (cfg.ch.get c).cap)
  | prst : ChanStep cfg c x (.cmdPrst c) Channel.powerOn
  | baud (data : Word) : ChanStep cfg c x (.wrChBaud c data) { x with baud := data }
  | byteHeld (b : Byte) (on : x.inited = true) (empty : x.hold = none) :
      ChanStep cfg c x (.evByte c b) { x with hold := some b, idleSeen := true }
  | byteOverrun (b kept : Byte) (on : x.inited = true) (full : x.hold ≠ none) :
      ChanStep cfg c x (.evByte c b) { x with orerr := true, idleSeen := true, hold := some kept }
  | idle (on : x.inited = true) : ChanStep cfg c x (.evIdle c) { x with idlef := true, idleSeen := false }
  | derr (on : x.den = true) :
      ChanStep cfg c x (.evDerr c) { x with derr := true, den := x.den && !cfg.dmaErrDisables }
  | dxfer (b : Byte) (on : x.den = true) (held : x.hold = some b) :
      ChanStep cfg c x (.evDxfer c) (x.transferred (cfg.ch.get c).cap)
  | ftick (armed : x.ten = true) : ChanStep cfg c x (.evFtick c) (x.timerTicked (cfg.ch.get c).tper)
  | didle (pending : x.idlef = true) : ChanStep cfg c x (.evDidle c) (x.idleAction (cfg.ch.get c).cap)
  | dexp (pending : x.upif = true) : ChanStep cfg c x (.evDexp c) (x.expiryAction (cfg.ch.get c).cap)

/-- Replacing channel `d` is a step of channel `c` when it is one for `c = d`; for every other channel it is none. -/
theorem chanStep_setChan {s u : State} {i : Instr} {c d : Chan} {y : Channel} (chans : u.ch = s.ch)
    (other : d ≠ c → ¬ Instr.ownStep c i) (step : d = c → ChanStep s.cfg c (s.chan c) i y) :
    ChanStep s.cfg c (s.chan c) i ((u.setChan d y).chan c) := by
  have same : u.chan c = s.chan c := by rw [State.chan, State.chan, chans]
  by_cases hd : d = c
  · subst hd
    rw [State.setChan_chan_same]
    exact step rfl
  · rw [State.setChan_chan_ne u y (Ne.symm hd), same]
    exact .same (other hd)

/-- The agent of an event of another channel is none of this channel's own. -/
theorem not_ownStep_event {c d : Chan} {i : Instr} (hd : d ≠ c)
    (agent : i.agent = some (.line d) ∨ i.agent = some (.dma d) ∨ i.agent = some (.frameTimer d) ∨
      i.agent = some (.detector d)) : ¬ Instr.ownStep c i := by
  rcases agent with e | e | e | e <;> simp [Instr.ownStep, e, hd]

/-- What an operation that answers a next state did to channel `c`. -/
theorem exec_chanStep {i : Instr} {s t : State} (c : Chan) (h : exec i s = .next t) :
    ChanStep s.cfg c (s.chan c) i (t.chan c) := by
  cases exec_effect h with
  | fault _ host => exact .same (not_ownStep_of_agent_host host)
  | refused _ agent => exact .same (agent.elim not_ownStep_of_agent_none not_ownStep_of_agent_host)
  | value _ host => exact .same (not_ownStep_of_agent_host host)
  | init d off =>
    exact chanStep_setChan rfl (fun _ => not_ownStep_of_agent_host rfl) (by rintro rfl; exact .init off)
  | reset d on =>
    exact chanStep_setChan rfl (fun _ => not_ownStep_of_agent_host rfl) (by rintro rfl; exact .reset on)
  | prst d => exact chanStep_setChan rfl (fun _ => not_ownStep_of_agent_host rfl) (by rintro rfl; exact .prst)
  | baud d data =>
    exact chanStep_setChan rfl (fun _ => not_ownStep_of_agent_host rfl) (by rintro rfl; exact .baud data)
  | ttick => exact .same (by simp [Instr.ownStep, Instr.agent])
  | ctrl | load | cal | quant => exact .same (not_ownStep_of_agent_host rfl)
  | byteDropped d b => exact .same (by simp [Instr.ownStep, Instr.agent])
  | idleDropped d => exact .same (by simp [Instr.ownStep, Instr.agent])
  | byteHeld d b on empty =>
    exact chanStep_setChan rfl (fun hd => not_ownStep_event hd (.inl rfl)) (by rintro rfl; exact .byteHeld b on empty)
  | byteOverrun d b old on held =>
    exact chanStep_setChan rfl (fun hd => not_ownStep_event hd (.inl rfl))
      (by rintro rfl; exact .byteOverrun b _ on (by simp [held]))
  | idle d on =>
    exact chanStep_setChan rfl (fun hd => not_ownStep_event hd (.inl rfl)) (by rintro rfl; exact .idle on)
  | derr d on =>
    exact chanStep_setChan rfl (fun hd => not_ownStep_event hd (.inl rfl)) (by rintro rfl; exact .derr on)
  | dxfer d b on held =>
    exact chanStep_setChan rfl (fun hd => not_ownStep_event hd (.inr (.inl rfl)))
      (by rintro rfl; exact .dxfer b on held)
  | ftick d armed =>
    exact chanStep_setChan rfl (fun hd => not_ownStep_event hd (.inr (.inr (.inl rfl))))
      (by rintro rfl; exact .ftick armed)
  | didle d pending =>
    exact chanStep_setChan rfl (fun hd => not_ownStep_event hd (.inr (.inr (.inr rfl))))
      (by rintro rfl; exact .didle pending)
  | dexp d pending =>
    exact chanStep_setChan rfl (fun hd => not_ownStep_event hd (.inr (.inr (.inr rfl))))
      (by rintro rfl; exact .dexp pending)

/-! ### Memory -/

/-- What an operation can do to memory: nothing, or store one byte, as DXFER (41_receive_dma.md R163) and DEXP
(43_frame_detector.md R192) do. -/
inductive MemStep (s : State) : Instr → Memory → Prop where
  | same {i} : MemStep s i s.mem
  | dxfer (c : Chan) (b : Byte) (on : (s.chan c).den = true) :
      MemStep s (.evDxfer c) (s.mem.write (s.dmaAddr c).toNat b)
  | dexp (c : Chan) (pending : (s.chan c).upif = true) :
      MemStep s (.evDexp c) (s.mem.write (s.sentinelAddr c).toNat sentinel)

theorem exec_memStep {i : Instr} {s t : State} (h : exec i s = .next t) : MemStep s i t.mem := by
  cases exec_effect h with
  | dxfer c b on => exact .dxfer c b on
  | dexp c pending => exact .dexp c pending
  | _ => exact .same

end Sys2Proof.Machine
end

section
/-! PROOFS. The invariant of the block: it holds at power-on, every step keeps it, and an operation of one channel stays
in that channel (10_state.md R46; 60_exceptions.md R306). -/

namespace Sys2Proof.Machine

/-! ### The invariant of one channel -/

/-- What the invariant says of channel `c` when it is `x`: `State.chanOk` without the state around the channel. -/
def ChanOk (cfg : Config) (c : Chan) (x : Channel) : Prop :=
  (x.inited = false → x.uninitOk) ∧ (x.inited = true → x.armedOk cfg (cfg.ch.get c).cap (cfg.ch.get c).tper)

theorem chanOk_iff (s : State) (c : Chan) : s.chanOk c ↔ ChanOk s.cfg c (s.chan c) := Iff.rfl

theorem chanOk_of_armedOk {cfg : Config} {c : Chan} {x : Channel} (on : x.inited = true)
    (h : x.armedOk cfg (cfg.ch.get c).cap (cfg.ch.get c).tper) : ChanOk cfg c x :=
  ⟨fun off => absurd (off.symm.trans on) (by decide), fun _ => h⟩

theorem chanOk_uninit (cfg : Config) (c : Chan) (baud : Word) :
    ChanOk cfg c { Channel.powerOn with baud := baud } :=
  ⟨fun _ => rfl, nofun⟩

theorem chanOk_powerOn (cfg : Config) (c : Chan) : ChanOk cfg c Channel.powerOn := chanOk_uninit cfg c 0#32

/-- A channel with a flag of its agents set is initialised. -/
theorem ChanOk.inited {cfg : Config} {c : Chan} {x : Channel} (h : ChanOk cfg c x)
    (flag : x.den = true ∨ x.ten = true ∨ x.idlef = true ∨ x.upif = true) : x.inited = true := by
  by_contra off
  have power := h.1 (by simpa using off)
  rw [Channel.uninitOk] at power
  rw [power] at flag
  simp [Channel.powerOn] at flag

theorem ChanOk.armed {cfg : Config} {c : Chan} {x : Channel} (h : ChanOk cfg c x) (on : x.inited = true) :
    x.armedOk cfg (cfg.ch.get c).cap (cfg.ch.get c).tper := h.2 on

/-! ### What the channel's operations keep of the invariant -/

section
variable {cfg : Config} {cap : Half} {tper : BitVec 17} {x : Channel}

theorem Channel.armedOk_afterInit (pos : 1 ≤ cap.toNat) : (x.afterInit cap).armedOk cfg cap tper := by
  simp [Channel.armedOk, Channel.afterInit_eq, pos]

theorem Channel.armedOk_afterReset (pos : 1 ≤ cap.toNat) (on : x.inited = true) :
    (x.afterReset cap).armedOk cfg cap tper := by
  simp [Channel.armedOk, Channel.afterReset_eq cap on, pos]

/-- DERR is what DEN can be lost to (41_receive_dma.md R164). -/
theorem Channel.armedOk_derr (h : x.armedOk cfg cap tper) (on : x.den = true) :
    Channel.armedOk cfg cap tper { x with derr := true, den := x.den && !cfg.dmaErrDisables } := by
  obtain ⟨cntPos, cntLe, lenLe, flag, ticking, stopped, fresh, started, -⟩ := h
  exact ⟨cntPos, cntLe, lenLe, flag, ticking, stopped, fresh, started, fun lost => ⟨rfl, by simpa [on] using lost⟩⟩

/-- A transfer leaves a count of 1 to C, and never a full count with FTF clear. -/
theorem Channel.armedOk_transferred (pos : 1 ≤ cap.toNat) (h : x.armedOk cfg cap tper) :
    (x.transferred cap).armedOk cfg cap tper := by
  obtain ⟨cntPos, cntLe, lenLe, flag, ticking, stopped, -, started, lost⟩ := h
  by_cases last : x.cnt = 1#16
  · rw [Channel.transferred_of_last cap last]
    exact ⟨pos, le_rfl, lenLe, flag, ticking, stopped, nofun, started, lost⟩
  · have cntNe : x.cnt.toNat ≠ 1 := fun e => last (BitVec.eq_of_toNat_eq e)
    have down := Channel.transferred_cnt_toNat_add_one cap last cntPos
    rw [Channel.transferred_of_not_last cap last] at down ⊢
    refine ⟨by omega, by omega, lenLe, flag, ticking, stopped, fun ⟨full, _⟩ => ?_, started, lost⟩
    rw [full] at down
    omega

/-- Within the window the 16-bit count of ticks does not wrap: TPER is at most 65536. -/
theorem Channel.timerTicked_tcnt_toNat (le : tper.toNat ≤ 65536) (lt : x.tcnt.toNat < tper.toNat)
    (notLast : x.tcnt.toNat + 1 ≠ tper.toNat) : (x.timerTicked tper).tcnt.toNat = x.tcnt.toNat + 1 := by
  rw [Channel.timerTicked_of_not_last notLast]
  exact BitVec.toNat_add_of_lt (by simp only [BitVec.toNat_ofNat]; omega)

theorem Channel.armedOk_timerTicked (le : tper.toNat ≤ 65536) (h : x.armedOk cfg cap tper) (armed : x.ten = true) :
    (x.timerTicked tper).armedOk cfg cap tper := by
  obtain ⟨cntPos, cntLe, lenLe, flag, ticking, -, fresh, started, lost⟩ := h
  have moved : x.len ≠ 0#16 := started (.inl armed)
  have lt := ticking armed
  by_cases last : x.tcnt.toNat + 1 = tper.toNat
  · rw [Channel.timerTicked_of_last last]
    exact ⟨cntPos, cntLe, lenLe, flag, nofun, fun _ => rfl, fun full => absurd (fresh full).1 moved, fun _ => moved,
      lost⟩
  · have up := Channel.timerTicked_tcnt_toNat le lt last
    rw [Channel.timerTicked_of_not_last last] at up ⊢
    refine ⟨cntPos, cntLe, lenLe, flag, fun _ => by omega, fun off => ?_, fun full => absurd (fresh full).1 moved,
      fun _ => moved, lost⟩
    exact absurd (off.symm.trans armed) (by decide)

/-- A spurious idle finds nothing armed or pending; any other arms the timer with a nonzero length. -/
theorem Channel.armedOk_idleAction (pos : 1 ≤ cap.toNat) (tperPos : 1 ≤ tper.toNat) (h : x.armedOk cfg cap tper) :
    (x.idleAction cap).armedOk cfg cap tper := by
  obtain ⟨cntPos, cntLe, -, flag, ticking, stopped, fresh, -, lost⟩ := h
  have capNe : cap ≠ 0#16 := by rintro rfl; simp at pos
  have zero_iff : x.frameLen cap = 0#16 ↔ x.cnt = cap ∧ x.ftf = false := Channel.frameLen_eq_zero capNe
  by_cases spurious : x.frameLen cap = 0#16
  · rw [Channel.idleAction_of_frameLen_eq_zero spurious]
    obtain ⟨-, ten, upif, cflag⟩ := fresh (zero_iff.mp spurious)
    exact ⟨cntPos, cntLe, by simp, flag, ticking, stopped, fun _ => ⟨rfl, ten, upif, cflag⟩,
      by simp [ten, upif, cflag], lost⟩
  · rw [Channel.idleAction_of_frameLen_ne_zero spurious]
    exact ⟨cntPos, cntLe, Channel.frameLen_le cntLe, flag, fun _ => tperPos, nofun,
      fun full => absurd (zero_iff.mpr full) spurious, fun _ => spurious, lost⟩

/-- An expiry is pending only when the length it declares is not 0. -/
theorem Channel.armedOk.frameLen_ne_zero (h : x.armedOk cfg cap tper) (pending : x.upif = true) :
    x.frameLen cap ≠ 0#16 := by
  obtain ⟨cntPos, cntLe, -, -, -, -, fresh, -, -⟩ := h
  have capNe : cap ≠ 0#16 := by rintro rfl; simp at cntLe; omega
  intro zero
  obtain ⟨-, -, upif, -⟩ := fresh ((Channel.frameLen_eq_zero capNe).mp zero)
  exact absurd (upif.symm.trans pending) (by decide)

theorem Channel.armedOk_expiryAction (h : x.armedOk cfg cap tper) (pending : x.upif = true) :
    (x.expiryAction cap).armedOk cfg cap tper := by
  have moved : x.frameLen cap ≠ 0#16 := h.frameLen_ne_zero pending
  obtain ⟨cntPos, cntLe, -, -, ticking, stopped, fresh, -, lost⟩ := h
  refine ⟨cntPos, cntLe, Channel.frameLen_le cntLe, .inr rfl, ticking, stopped, fun full => ?_, fun _ => moved, lost⟩
  obtain ⟨-, -, upif, -⟩ := fresh full
  exact absurd (upif.symm.trans pending) (by decide)

theorem Channel.transferred_inited : (x.transferred cap).inited = x.inited := by
  unfold Channel.transferred
  split <;> rfl

end

/-- Every operation keeps the invariant of every channel. -/
theorem ChanOk.step {cfg : Config} {c : Chan} {x y : Channel} {i : Instr} (hw : cfg.wf = true) (ok : ChanOk cfg c x)
    (h : ChanStep cfg c x i y) : ChanOk cfg c y := by
  obtain ⟨capPos, tperPos, tperLe, -, -⟩ := Config.wf_chan hw c
  cases h with
  | same => exact ok
  | init => exact chanOk_of_armedOk rfl (Channel.armedOk_afterInit capPos)
  | reset on => exact chanOk_of_armedOk on (Channel.armedOk_afterReset capPos on)
  | prst => exact chanOk_powerOn cfg c
  | baud data =>
    refine ⟨fun off => ?_, ok.2⟩
    have power := ok.1 off
    rw [Channel.uninitOk] at power ⊢
    rw [power]
  | byteHeld _ on | byteOverrun _ _ on | idle on => exact chanOk_of_armedOk on (ok.armed on)
  | derr on =>
    have live := ok.inited (.inl on)
    exact chanOk_of_armedOk live (Channel.armedOk_derr (ok.armed live) on)
  | dxfer b on =>
    have live := ok.inited (.inl on)
    exact chanOk_of_armedOk (Channel.transferred_inited.trans live) (Channel.armedOk_transferred capPos (ok.armed live))
  | ftick armed =>
    have live := ok.inited (.inr (.inl armed))
    exact chanOk_of_armedOk ((x.sameRing_timerTicked _).1.trans live)
      (Channel.armedOk_timerTicked tperLe (ok.armed live) armed)
  | didle pending =>
    have live := ok.inited (.inr (.inr (.inl pending)))
    exact chanOk_of_armedOk ((x.sameRing_idleAction _).1.trans live)
      (Channel.armedOk_idleAction capPos tperPos (ok.armed live))
  | dexp pending =>
    have live := ok.inited (.inr (.inr (.inr pending)))
    exact chanOk_of_armedOk live (Channel.armedOk_expiryAction (ok.armed live) pending)

/-! ### The bytes that DXFER and DEXP store -/

theorem BlockInv.chan {s : State} (h : BlockInv s) (c : Chan) : ChanOk s.cfg c (s.chan c) := h.1 c

theorem ChanOk.cnt_le {cfg : Config} {c : Chan} {x : Channel} (ok : ChanOk cfg c x)
    (flag : x.den = true ∨ x.ten = true ∨ x.idlef = true ∨ x.upif = true) :
    1 ≤ x.cnt.toNat ∧ x.cnt.toNat ≤ (cfg.ch.get c).cap.toNat := by
  obtain ⟨cntPos, cntLe, -⟩ := ok.armed (ok.inited flag)
  exact ⟨cntPos, cntLe⟩

/-- DXFER stores below the sentinel slot of its channel's buffer. -/
theorem BlockInv.dmaAddr_toNat {s : State} {c : Chan} (hw : s.cfg.wf = true) (inv : BlockInv s)
    (on : (s.chan c).den = true) :
    (s.dmaAddr c).toNat = s.cfg.bufLo c + ((s.cap c).toNat - (s.chan c).cnt.toNat) ∧ 1 ≤ (s.chan c).cnt.toNat :=
  have ⟨pos, le⟩ := (inv.chan c).cnt_le (.inl on)
  ⟨State.dmaAddr_toNat hw le, pos⟩

/-- DEXP stores right after the last valid byte of its channel's buffer. -/
theorem BlockInv.sentinelAddr_toNat {s : State} {c : Chan} (hw : s.cfg.wf = true) (inv : BlockInv s)
    (pending : (s.chan c).upif = true) :
    (s.sentinelAddr c).toNat = s.cfg.bufLo c + ((s.chan c).frameLen (s.cap c)).toNat ∧
      ((s.chan c).frameLen (s.cap c)).toNat ≤ (s.cap c).toNat :=
  have ⟨_, le⟩ := (inv.chan c).cnt_le (.inr (.inr (.inr pending)))
  ⟨State.sentinelAddr_toNat hw le, Channel.frameLen_le le⟩

/-- A byte that an operation stores is one of the buffer of the channel whose DMA or detector stored it. -/
theorem MemStep.write_owned {s : State} {i : Instr} {m : Memory} (hw : s.cfg.wf = true) (inv : BlockInv s)
    (h : MemStep s i m) :
    m = s.mem ∨ ∃ c a b, (i = .evDxfer c ∨ i = .evDexp c) ∧ m = s.mem.write a b ∧
      s.cfg.bufLo c ≤ a ∧ a ≤ s.cfg.bufHi c := by
  cases h with
  | same => exact .inl rfl
  | dxfer c b on =>
    obtain ⟨addr, -⟩ := inv.dmaAddr_toNat hw on
    refine .inr ⟨c, _, b, .inl rfl, rfl, ?_⟩
    rw [addr, Config.bufHi, ← State.cap]
    omega
  | dexp c pending =>
    obtain ⟨addr, le⟩ := inv.sentinelAddr_toNat hw pending
    refine .inr ⟨c, _, _, .inr rfl, rfl, ?_⟩
    rw [addr, Config.bufHi, ← State.cap]
    omega

/-! ### The time base (10_state.md R41) -/

/-- The reload value and the count fit TBW bits. -/
def TimeBase.Fits (tb : TimeBase) (tbw : Nat) : Prop := tb.load.toNat < 2 ^ tbw ∧ tb.val.toNat < 2 ^ tbw

theorem TimeBase.Fits.ticked {tb : TimeBase} {tbw : Nat} (h : tb.Fits tbw) : tb.ticked.Fits tbw := by
  obtain ⟨load, val⟩ := h
  refine ⟨load, ?_⟩
  by_cases zero : tb.val = 0#32
  · rwa [TimeBase.ticked_val_of_eq_zero zero]
  · have down := TimeBase.ticked_val_toNat_add_one zero
    omega

theorem TimeBase.Fits.afterCtrl {tb : TimeBase} {tbw : Nat} (h : tb.Fits tbw) (data : Word) :
    (tb.afterCtrl data).Fits tbw := by
  obtain ⟨load, val⟩ := h
  refine ⟨load, ?_⟩
  by_cases start : tb.en = false ∧ data.getLsbD 0 = true
  · rwa [TimeBase.afterCtrl_val_of_start start]
  · rwa [TimeBase.afterCtrl_val_of_not_start start]

theorem exec_tbFits {i : Instr} {s t : State} (h : exec i s = .next t) (fits : s.tb.Fits s.cfg.tbw) :
    t.tb.Fits s.cfg.tbw := by
  cases exec_effect h with
  | ttick => exact fits.ticked
  | ctrl data => exact fits.afterCtrl data
  | load data => exact ⟨(tbField_toNat s.cfg data).trans_lt (Nat.mod_lt _ (by positivity)), fits.2⟩
  | _ => exact fits

/-! ### The invariant of the block -/

theorem blockInv_powerOn (cfg : Config) : BlockInv (State.powerOn cfg) := by
  refine ⟨fun c => ?_, Nat.two_pow_pos _, Nat.two_pow_pos _, rfl, nofun⟩
  rw [chanOk_iff, State.powerOn_chan]
  exact chanOk_powerOn cfg c

/-- Settles O10: a launched state is the power-on state, in which every channel is uninitialised and nothing is
written. -/
theorem invariantHoldsAtPowerOn : Obligations.InvariantHoldsAtPowerOn :=
  ⟨blockInv_powerOn _, Config.launched_wf, fun cfg =>
    ⟨fun hw => ⟨_, State.launch_eq_some.mpr ⟨hw, rfl⟩, blockInv_powerOn cfg, rfl⟩,
      fun ill => if_neg (by simp [ill])⟩⟩

theorem exec_blockInv {i : Instr} {s t : State} (hw : s.cfg.wf = true) (inv : BlockInv s) (h : exec i s = .next t) :
    BlockInv t := by
  have sameCfg := exec_cfg h
  have chans (c : Chan) : t.chanOk c := by
    rw [chanOk_iff, sameCfg]
    exact (inv.chan c).step hw (exec_chanStep c h)
  have stores := (exec_memStep h).write_owned hw inv
  obtain ⟨-, load, val, canonical, owned⟩ := inv
  obtain ⟨load', val'⟩ := exec_tbFits h ⟨load, val⟩
  refine ⟨chans, sameCfg ▸ load', sameCfg ▸ val', ?_⟩
  rw [sameCfg]
  rcases stores with same | ⟨c, a, b, -, stored, lo, hi⟩
  · rw [same]
    exact ⟨canonical, owned⟩
  · rw [stored]
    refine ⟨Memory.wf_write a b canonical, fun p mem => ?_⟩
    rcases Memory.mem_write mem with rfl | before
    · exact ⟨c, lo, hi⟩
    · exact owned p before

/-- What a step did: it performed the operation of the oldest request, or that request faulted or was refused on the
bus. -/
theorem step_cases {s t : State} (h : step s = .next t) :
    (∃ i, exec i (s.withSched s.sched.tail) = .next t) ∨
    (∃ code, t = raiseFault code (s.withSched s.sched.tail)) ∨
    (∃ why, t = refuse why (s.withSched s.sched.tail)) := by
  cases hs : s.sched with
  | nil => simp [step, hs] at h
  | cons r rest =>
    simp only [step, hs] at h
    split at h
    · exact .inl ⟨_, h⟩
    · cases h
      exact .inr (.inl ⟨_, rfl⟩)
    · cases h
      exact .inr (.inr ⟨_, rfl⟩)

/-- Settles O11: an operation keeps each channel's invariant, the width of the time base and the canonical memory; a
fault or a refusal on the bus touches none of them. -/
theorem everyStepKeepsTheInvariant : Obligations.EveryStepKeepsTheInvariant := by
  intro s t hw inv h
  rcases step_cases h with ⟨i, run⟩ | ⟨code, rfl⟩ | ⟨why, rfl⟩
  · exact exec_blockInv (s := s.withSched s.sched.tail) hw inv run
  · exact inv
  · exact inv

end Sys2Proof.Machine
end

section
/-! PROOFS. What an operation leaves alone: the configuration, the marks, memory and the other channels (10_state.md
R24, R44, R46; 60_exceptions.md R301-R303; 20_memory.md R76, R78, R79). -/

namespace Sys2Proof.Machine

/-! ### The configuration and the schedule -/

/-- Settles O12: no effect writes either field; a step takes one request off the schedule first. -/
theorem configurationNeverChanges : Obligations.ConfigurationNeverChanges := by
  refine ⟨fun i s t h => ⟨exec_cfg h, exec_sched h⟩, fun s t h => ?_⟩
  rcases step_cases h with ⟨i, run⟩ | ⟨code, rfl⟩ | ⟨why, rfl⟩
  · exact ⟨(exec_cfg run).trans rfl, exec_sched run⟩
  · exact ⟨rfl, rfl⟩
  · exact ⟨rfl, rfl⟩

/-! ### Faults and the refused mark -/

theorem has_of_has_raiseFault (code : FaultCode) (s : State) {d : FaultCode} (h : s.faults.has d = true) :
    (raiseFault code s).faults.has d = true := by
  rw [raiseFault_faults, FaultSet.has_add, h, Bool.or_true]

/-- Settles O14: only the fault effect reports a fault and only the refusal effect a refusal; no other effect touches
either mark. -/
theorem faultOrRefusalHasNoOtherEffect : Obligations.FaultOrRefusalHasNoOtherEffect := by
  intro i s t h
  cases exec_effect h with
  | fault code =>
    refine ⟨fun d e => ?_, nofun, fun none => absurd rfl (none code), fun _ => rfl⟩
    cases e
    exact onlyFaults_raiseFault code s
  | refused why =>
    refine ⟨nofun, fun d e => ?_, fun _ => rfl, fun none => absurd rfl (none why)⟩
    cases e
    exact onlyRefuses_refuse why s
  | _ => exact ⟨nofun, nofun, fun _ => rfl, fun _ => rfl⟩

/-- An operation keeps every recorded fault and the refused mark. -/
theorem exec_marks {i : Instr} {s t : State} (h : exec i s = .next t) :
    (∀ d, s.faults.has d = true → t.faults.has d = true) ∧ (s.refused = true → t.refused = true) := by
  cases exec_effect h with
  | fault code => exact ⟨fun _ => has_of_has_raiseFault code s, id⟩
  | refused => exact ⟨fun _ => id, fun _ => rfl⟩
  | _ => exact ⟨fun _ => id, id⟩

/-- Settles O13: an operation keeps the marks, and so do a fault and a refusal on the bus. -/
theorem faultsAndRefusalAreSticky : Obligations.FaultsAndRefusalAreSticky := by
  intro s t h
  rcases step_cases h with ⟨i, run⟩ | ⟨code, rfl⟩ | ⟨why, rfl⟩
  · exact exec_marks (s := s.withSched s.sched.tail) run
  · exact ⟨fun _ => has_of_has_raiseFault code (s.withSched s.sched.tail), id⟩
  · exact ⟨fun _ => id, fun _ => rfl⟩

/-- Settles O15: every effect that touches a mark or returns a value is the host's or no agent's. -/
theorem eventsNeverFault : Obligations.EventsNeverFault := by
  intro i s t notHost agent h
  cases exec_effect h with
  | fault _ host => exact absurd host notHost
  | refused _ ofHost => exact absurd ofHost (by simp [agent, notHost])
  | value _ host => exact absurd host notHost
  | init | reset | prst | baud | ctrl | load | cal | quant => exact absurd rfl notHost
  | ttick | byteDropped | byteHeld | byteOverrun | idleDropped | idle | derr | dxfer | ftick | didle | dexp =>
    exact ⟨rfl, rfl, rfl⟩

theorem exec_onlyRefuses {i : Instr} {s : State} {why : RefusalReason} (h : exec i s = .next (refuse why s)) :
    ∃ t, exec i s = .next t ∧ OnlyRefuses why s t :=
  ⟨_, h, onlyRefuses_refuse why s⟩

/-- Settles O21: each of the seventeen operations answers `refuse` with the reason of its group. -/
theorem refusedWordsSetTheMark : Obligations.RefusedWordsSetTheMark := by
  intro s c ch sz arg
  refine ⟨fun i mem => ?_, fun i mem => ?_, fun i mem => ?_⟩ <;> fin_cases mem <;> exact exec_onlyRefuses rfl

/-! ### Memory -/

/-- Settles O17: of the ways an operation treats memory, the two that store a byte are those of DXFER and DEXP. -/
theorem onlyDmaAndExpiryWriteMemory : Obligations.OnlyDmaAndExpiryWriteMemory := by
  intro i s t h other a
  have step := exec_memStep h
  generalize hm : t.mem = m at step
  cases step with
  | same => rw [State.memByte, hm, State.memByte]
  | dxfer c => exact absurd rfl (other c).1
  | dexp c => exact absurd rfl (other c).2

/-- An operation that is no DXFER or DEXP of another channel leaves every byte outside channel `c`'s buffer alone. -/
theorem exec_memByte_outside {i : Instr} {s t : State} {c : Chan} (hw : s.cfg.wf = true) (inv : BlockInv s)
    (h : exec i s = .next t) (ofChan : ∀ d, i = .evDxfer d ∨ i = .evDexp d → d = c) {a : Nat}
    (outside : a < s.cfg.bufLo c ∨ s.cfg.bufHi c < a) : t.memByte a = s.memByte a := by
  rcases (exec_memStep h).write_owned hw inv with same | ⟨d, x, b, op, stored, lo, hi⟩
  · rw [State.memByte, same, State.memByte]
  · cases ofChan d op
    rw [State.memByte, stored, State.memByte]
    exact Memory.byteAt_write_ne s.mem b (by omega)

/-- A byte of channel `c`'s buffer changes only by that channel's DXFER and DEXP: the buffers share no byte. -/
theorem exec_memByte_inside {i : Instr} {s t : State} {c : Chan} (hw : s.cfg.wf = true) (inv : BlockInv s)
    (h : exec i s = .next t) (other : i ≠ .evDxfer c ∧ i ≠ .evDexp c) {a : Nat} (lo : s.cfg.bufLo c ≤ a)
    (hi : a ≤ s.cfg.bufHi c) : t.memByte a = s.memByte a := by
  rcases (exec_memStep h).write_owned hw inv with same | ⟨d, x, b, op, stored, lo', hi'⟩
  · rw [State.memByte, same, State.memByte]
  · have hd : d ≠ c := by
      rintro rfl
      exact op.elim other.1 other.2
    have apart := Config.wf_apart hw hd
    rw [State.memByte, stored, State.memByte]
    exact Memory.byteAt_write_ne s.mem b (by omega)

/-! ### The channels (10_state.md R46) -/

/-- An operation of channel `c` leaves the other channels and the time base alone. -/
theorem exec_othersSame {i : Instr} {s t : State} {c : Chan} (hc : i.chan? = some c) (h : exec i s = .next t) :
    OthersSame c s t ∧ t.tb = s.tb := by
  cases exec_effect h with
  | ttick | ctrl | load | cal | quant => cases hc
  | fault | refused | value | byteDropped | idleDropped => exact ⟨fun _ _ => ⟨rfl, rfl⟩, rfl⟩
  | init | reset | prst | baud | byteHeld | idle | derr | dxfer | ftick | didle | dexp =>
    cases hc
    exact ⟨fun d hd => ⟨State.setChan_chan_ne _ _ hd, rfl⟩, rfl⟩
  | byteOverrun =>
    cases hc
    exact ⟨othersSame_setChan_countDraw_done c _ s, rfl⟩

/-- Settles O18: the effect names channel `c`, and what it stores lies in that channel's buffer. -/
theorem channelOperationStaysInItsChannel : Obligations.ChannelOperationStaysInItsChannel := by
  intro i s t c hw inv hc h
  obtain ⟨others, tb⟩ := exec_othersSame hc h
  refine ⟨others, tb, exec_cfg h, exec_sched h, fun a outside => exec_memByte_outside hw inv h ?_ outside⟩
  rintro d (rfl | rfl) <;> cases hc <;> rfl

/-! ### CFLAG (10_state.md R39, R47 (c)) -/

theorem Channel.timerTicked_cflag (ch : Channel) (tper : BitVec 17) : (ch.timerTicked tper).cflag = ch.cflag := by
  unfold Channel.timerTicked
  split <;> rfl

theorem Channel.idleAction_cflag (ch : Channel) (cap : Half) : (ch.idleAction cap).cflag = ch.cflag := by
  unfold Channel.idleAction
  split <;> rfl

theorem Channel.transferred_cflag (ch : Channel) (cap : Half) : (ch.transferred cap).cflag = ch.cflag := by
  unfold Channel.transferred
  split <;> rfl

/-- Settles O20: of a channel's steps only DEXP and the three commands write CFLAG. -/
theorem cflagMovesOnlyByExpiryAndCommands : Obligations.CflagMovesOnlyByExpiryAndCommands := by
  intro i s t c h moved
  have step := exec_chanStep c h
  generalize t.chan c = y at step moved ⊢
  cases step with
  | init => exact .inr ⟨rfl, .inr (.inl rfl)⟩
  | reset => exact .inr ⟨rfl, .inl rfl⟩
  | prst => exact .inr ⟨rfl, .inr (.inr rfl)⟩
  | dexp => exact .inl ⟨rfl, rfl⟩
  | dxfer => exact absurd (Channel.transferred_cflag _ _) moved
  | ftick => exact absurd (Channel.timerTicked_cflag _ _) moved
  | didle => exact absurd (Channel.idleAction_cflag _ _) moved
  | same | baud | byteHeld | byteOverrun | idle | derr => exact absurd rfl moved

/-! ### Enabling (10_state.md R23; 70_reset_and_hazards.md R357) -/

theorem whenEnabled_eq_notEnabled {enabled : Bool} {t : State} :
    whenEnabled enabled t = .fault .notEnabled ↔ enabled = false := by
  cases enabled <;> simp [whenEnabled]

theorem exec_evDxfer_eq_notEnabled {c : Chan} {s : State} :
    exec (.evDxfer c) s = .fault .notEnabled ↔ (s.chan c).hold = none ∨ (s.chan c).den = false := by
  cases held : (s.chan c).hold with
  | none => simp [exec_evDxfer_of_hold_none held]
  | some b => simp [exec_evDxfer_of_hold_some held, whenEnabled_eq_notEnabled]

theorem exec_evFtick_eq_notEnabled {c : Chan} {s : State} :
    exec (.evFtick c) s = .fault .notEnabled ↔ (s.chan c).ten = false := by
  rw [exec_evFtick, whenEnabled_eq_notEnabled]

theorem exec_evDidle_eq_notEnabled {c : Chan} {s : State} :
    exec (.evDidle c) s = .fault .notEnabled ↔ (s.chan c).idlef = false := by
  rw [exec_evDidle, whenEnabled_eq_notEnabled]

theorem exec_evDexp_eq_notEnabled {c : Chan} {s : State} :
    exec (.evDexp c) s = .fault .notEnabled ↔ (s.chan c).upif = false := by
  rw [exec_evDexp, whenEnabled_eq_notEnabled]

/-- Settles O8: each event's guard is the condition its rule states. -/
theorem noStepWhereNotEnabled : Obligations.NoStepWhereNotEnabled := by
  intro s c
  refine ⟨fun strict unseen => ?_, fun off => exec_evDxfer_eq_notEnabled.mpr off.symm, exec_evFtick_eq_notEnabled.mpr,
    exec_evDidle_eq_notEnabled.mpr, exec_evDexp_eq_notEnabled.mpr, fun off => ?_, fun off => ?_, fun empty => ?_⟩
  · rw [exec_evIdle, whenEnabled_eq_notEnabled, strict]
    rcases unseen with off | off <;> simp [idleEnabled, off]
  · rw [exec_evDerr, whenEnabled_eq_notEnabled, off]
  · rw [exec_evTtick, whenEnabled_eq_notEnabled, off]
  · simp [step, empty]

/-- Settles O60: quiescence is the conjunction of the four guards, negated. -/
theorem quiescentChannelHasNoStep : Obligations.QuiescentChannelHasNoStep := by
  intro s c
  have quiet : (s.chan c).quiescent = true ↔ (s.chan c).idlef = false ∧ (s.chan c).upif = false ∧
      (s.chan c).ten = false ∧ ((s.chan c).hold = none ∨ (s.chan c).den = false) := by
    simp [Channel.quiescent, and_assoc]
  simp only [quiet, List.forall_mem_cons, exec_evDxfer_eq_notEnabled, exec_evFtick_eq_notEnabled,
    exec_evDidle_eq_notEnabled, exec_evDexp_eq_notEnabled]
  simp only [List.not_mem_nil, false_implies, implies_true, and_true]
  tauto

end Sys2Proof.Machine
end

section
/-! PROOFS. The ring (41_receive_dma.md R167) and the received length within a frame (43_frame_detector.md R197). -/

namespace Sys2Proof.Machine

/-! ### Runs -/

theorem execAll_cons_of_next {i : Instr} {is : List Instr} {s u : State} (h : exec i s = .next u) :
    execAll (i :: is) s = execAll is u := by
  simp only [execAll, h]

/-- A run that ends in a next state can be stopped anywhere. -/
theorem execAll_append_next {xs ys : List Instr} {s t : State} (h : execAll (xs ++ ys) s = .next t) :
    ∃ u, execAll xs s = .next u ∧ execAll ys u = .next t := by
  rw [execAll_append] at h
  cases hu : execAll xs s with
  | next u => exact ⟨u, rfl, by rwa [hu] at h⟩
  | fault r => simp [hu] at h
  | refused r => simp [hu] at h

theorem State.cap_of_cfg {s t : State} (h : t.cfg = s.cfg) (c : Chan) : t.cap c = s.cap c := by
  rw [State.cap, State.cap, h]

/-! ### The count and FTF (R167 (a), (b)) -/

/-- Settles O45: `RingAfter`, kept along the run, at the number of transfers. -/
theorem ringCountLaw : Obligations.RingCountLaw := by
  intro s t c is hw fresh noRearm run
  obtain ⟨pos, -⟩ := Config.wf_chan hw c
  have ring := execAll_ringAfter pos (fresh.ringAfter_zero pos) noRearm run
  rw [Nat.zero_add] at ring
  exact ⟨ring.cnt, ring.ftf⟩

/-! ### The bytes of a burst (R167 (c), (d)) -/

/-- The channel is ready for a byte, `k` transfers after ArmDma: DMA enabled, nothing held. -/
structure Channel.ReadyAfter (ch : Channel) (cap : Half) (k : Nat) : Prop where
  ring : ch.RingAfter cap k
  den : ch.den = true
  hold : ch.hold = none

theorem Channel.ReadyAfter.landed {ch : Channel} {cap : Half} {k : Nat} (h : ch.ReadyAfter cap k)
    (pos : 1 ≤ cap.toNat) (b : Byte) :
    (Channel.transferred { ch with hold := some b, idleSeen := true } cap).ReadyAfter cap (k + 1) := by
  have ring : Channel.RingAfter { ch with hold := some b, idleSeen := true } cap k :=
    h.ring.of_sameRing ⟨rfl, rfl, rfl⟩
  have den := h.den
  refine ⟨ring.transferred pos, ?_, ?_⟩
  · unfold Channel.transferred
    split <;> exact den
  · unfold Channel.transferred
    split <;> rfl

/-- A byte that arrives at an empty holding register is held, and that is all. -/
theorem exec_evByte_of_empty {s : State} {c : Chan} (b : Byte) (on : (s.chan c).inited = true)
    (empty : (s.chan c).hold = none) :
    ∃ u, exec (.evByte c b) s = .next u ∧ u.cfg = s.cfg ∧
      u.chan c = { s.chan c with hold := some b, idleSeen := true } ∧ MemSame s u := by
  refine ⟨_, exec_evByte c b s, ?_⟩
  rw [lineByte_of_hold_none b on empty]
  exact ⟨rfl, State.setChan_chan_same _ _ _, memSame_setChan_done c _ s⟩

/-- One byte arrives and is moved to index `k mod C`. -/
theorem execAll_byte_dxfer {s : State} {c : Chan} {k : Nat} (b : Byte) (hw : s.cfg.wf = true)
    (h : (s.chan c).ReadyAfter (s.cap c) k) :
    ∃ t, execAll [.evByte c b, .evDxfer c] s = .next t ∧ t.cfg = s.cfg ∧ (t.chan c).ReadyAfter (s.cap c) (k + 1) ∧
      t.memByte (s.cfg.bufLo c + k % (s.cap c).toNat) = b ∧
      MemSameBut (s.cfg.bufLo c + k % (s.cap c).toNat) s t := by
  have pos : 1 ≤ (s.cap c).toNat := (Config.wf_chan hw c).1
  obtain ⟨u, held, sameCfg, chan, sameMem⟩ := exec_evByte_of_empty b h.ring.inited h.hold
  have sameCap := State.cap_of_cfg sameCfg c
  have moved := exec_of_enabled (exec_evDxfer_of_hold_some (s := u) (c := c) (b := b) (by rw [chan]))
    (by rw [chan]; exact h.den)
  have cnt : (u.chan c).cnt.toNat = (u.cap c).toNat - k % (s.cap c).toNat := by rw [chan, sameCap]; exact h.ring.cnt
  have addr : (u.dmaAddr c).toNat = s.cfg.bufLo c + k % (s.cap c).toNat := by
    have rem : k % (s.cap c).toNat < (s.cap c).toNat := Nat.mod_lt k pos
    rw [State.dmaAddr_toNat (sameCfg ▸ hw) (cnt.trans_le (Nat.sub_le _ _)), cnt, sameCfg, sameCap,
      Nat.sub_sub_self rem.le]
  refine ⟨_, (execAll_cons_of_next held).trans (execAll_cons_of_next moved), sameCfg, ?_, ?_, fun a ne => ?_⟩
  · rw [State.done_chan, State.setChan_chan_same, chan, sameCap]
    exact h.landed pos b
  · rw [← addr]
    exact State.storeByte_memByte_same _ _ _
  · rw [← addr] at ne
    exact (memSameBut_storeByte_setChan_done _ b c _ u a ne).trans (sameMem a)

/-- The bytes `bs` landed from index `k` on: the last C of them are in the ring, and nothing else was written. -/
def BytesLanded (c : Chan) (k : Nat) (bs : List Byte) (s t : State) : Prop :=
  (∀ j, ∀ hj : j < bs.length, bs.length ≤ j + (s.cap c).toNat →
    t.memByte (s.cfg.bufLo c + (k + j) % (s.cap c).toNat) = bs[j]) ∧
  (∀ a, (∀ j, j < bs.length → a ≠ s.cfg.bufLo c + (k + j) % (s.cap c).toNat) → t.memByte a = s.memByte a)

/-- Two indices less than a whole ring apart are different places. -/
theorem add_mod_ne_mod {k d n : Nat} (pos : 0 < d) (lt : d < n) : (k + d) % n ≠ k % n := by
  intro same
  have zero : d ≡ 0 [MOD n] := Nat.ModEq.add_left_cancel' k same
  rw [Nat.ModEq, Nat.mod_eq_of_lt lt, Nat.zero_mod] at zero
  omega

/-- A byte and then the others: the first is in the ring at the end exactly when the others do not fill it. -/
theorem BytesLanded.cons {c : Chan} {k : Nat} {b : Byte} {bs : List Byte} {s u t : State} (sameCfg : u.cfg = s.cfg)
    (first : u.memByte (s.cfg.bufLo c + k % (s.cap c).toNat) = b)
    (but : MemSameBut (s.cfg.bufLo c + k % (s.cap c).toNat) s u) (rest : BytesLanded c (k + 1) bs u t) :
    BytesLanded c k (b :: bs) s t := by
  obtain ⟨landed, untouched⟩ := rest
  rw [sameCfg, State.cap_of_cfg sameCfg] at landed untouched
  constructor
  · intro j hj recent
    cases j with
    | zero =>
      rw [Nat.add_zero, untouched _ fun j hj' => ?_]
      · exact first
      · rw [List.length_cons] at recent
        have apart := add_mod_ne_mod (k := k) (show 0 < 1 + j by omega) (show 1 + j < (s.cap c).toNat by omega)
        rw [← Nat.add_assoc] at apart
        omega
    | succ j =>
      rw [List.length_cons] at hj recent
      rw [show k + (j + 1) = k + 1 + j by omega]
      exact landed j (by omega) (by omega)
  · intro a other
    have skips (j : Nat) (hj : j < bs.length) : a ≠ s.cfg.bufLo c + (k + 1 + j) % (s.cap c).toNat := by
      rw [show k + 1 + j = k + (j + 1) by omega]
      exact other (j + 1) (by rw [List.length_cons]; omega)
    exact (untouched a skips).trans (but a (other 0 (Nat.succ_pos _)))

theorem execAll_burst {s : State} {c : Chan} {k : Nat} (bs : List Byte) (hw : s.cfg.wf = true)
    (h : (s.chan c).ReadyAfter (s.cap c) k) :
    ∃ t, execAll (burst c bs) s = .next t ∧ (t.chan c).ReadyAfter (s.cap c) (k + bs.length) ∧
      BytesLanded c k bs s t := by
  induction bs generalizing s k with
  | nil => exact ⟨s, rfl, h, nofun, fun _ _ => rfl⟩
  | cons b bs ih =>
    obtain ⟨u, hu, sameCfg, ready, first, but⟩ := execAll_byte_dxfer b hw h
    rw [← State.cap_of_cfg sameCfg] at ready
    obtain ⟨t, ht, final, landed⟩ := ih (sameCfg ▸ hw) ready
    refine ⟨t, ?_, ?_, .cons sameCfg first but landed⟩
    · rw [show burst c (b :: bs) = [.evByte c b, .evDxfer c] ++ burst c bs from rfl, execAll_append, hu]
      exact ht
    · rw [State.cap_of_cfg sameCfg] at final
      rw [List.length_cons, show k + (bs.length + 1) = k + 1 + bs.length by omega]
      exact final

/-- Settles O46: induction over the bytes; each lands at the index the ring law gives. -/
theorem ringKeepsTheLastBytes : Obligations.RingKeepsTheLastBytes := by
  intro s c bs hw fresh den hold
  obtain ⟨pos, -⟩ := Config.wf_chan hw c
  obtain ⟨t, run, ready, landed⟩ := execAll_burst bs hw ⟨fresh.ringAfter_zero pos, den, hold⟩
  simp only [BytesLanded, Nat.zero_add] at landed
  exact ⟨t, run, ready.hold, landed⟩

/-! ### The length within a frame (R197) -/

/-- With at most C transfers since ArmDma the detector's length is their number. -/
theorem Channel.RingAfter.frameLen_toNat {ch : Channel} {cap : Half} {k : Nat} (h : ch.RingAfter cap k)
    (le : k ≤ cap.toNat) : (ch.frameLen cap).toNat = k := by
  obtain rfl | lt := Nat.eq_or_lt_of_le le
  · rw [h.frameLen_eq_cap.2]
  · have cnt := h.cnt
    have notFull : ¬ (ch.cnt = cap ∧ ch.ftf = true) := fun ⟨_, ftf⟩ => absurd (h.ftf.mp ftf) (by omega)
    rw [Nat.mod_eq_of_lt lt] at cnt
    rw [Channel.frameLen_toNat (by omega), if_neg notFull]
    omega

theorem Channel.transferred_len (ch : Channel) (cap : Half) : (ch.transferred cap).len = ch.len := by
  unfold Channel.transferred
  split <;> rfl

theorem Channel.timerTicked_len (ch : Channel) (tper : BitVec 17) : (ch.timerTicked tper).len = ch.len := by
  unfold Channel.timerTicked
  split <;> rfl

theorem Channel.idleAction_len (ch : Channel) (cap : Half) : (ch.idleAction cap).len = ch.frameLen cap := by
  unfold Channel.idleAction
  split <;> rfl

/-- Without a re-arm the length is written by the detector alone, with the detector's length. -/
theorem ChanStep.len {cfg : Config} {c : Chan} {x y : Channel} {i : Instr} (h : ChanStep cfg c x i y)
    (on : x.inited = true) (noRearm : rearms c i = false) :
    y.len = x.len ∨ (i = .evDidle c ∨ i = .evDexp c) ∧ y.len = x.frameLen (cfg.ch.get c).cap := by
  cases h with
  | init off => exact absurd (off.symm.trans on) (by decide)
  | reset | prst => simp [rearms] at noRearm
  | dxfer => exact .inl (x.transferred_len _)
  | ftick => exact .inl (x.timerTicked_len _)
  | didle => exact .inr ⟨.inl rfl, x.idleAction_len _⟩
  | dexp => exact .inr ⟨.inr rfl, rfl⟩
  | same | baud | byteHeld | byteOverrun | idle | derr => exact .inl rfl

/-- The ring law, and the length is no more than the number of transfers. -/
structure Channel.FrameAfter (ch : Channel) (cap : Half) (k : Nat) : Prop where
  ring : ch.RingAfter cap k
  len : ch.len.toNat ≤ k

theorem exec_frameAfter {i : Instr} {s t : State} {c : Chan} {k : Nat} (pos : 1 ≤ (s.cap c).toNat)
    (hk : (s.chan c).FrameAfter (s.cap c) k) (noRearm : rearms c i = false) (le : k ≤ (s.cap c).toNat)
    (h : exec i s = .next t) :
    (t.chan c).FrameAfter (s.cap c) (k + dxfers c [i]) ∧ (s.chan c).len.toNat ≤ (t.chan c).len.toNat := by
  have ring := exec_ringAfter pos hk.ring noRearm h
  have len := hk.len
  rcases (exec_chanStep c h).len hk.ring.inited noRearm with kept | ⟨-, written⟩
  · exact ⟨⟨ring, by rw [kept]; omega⟩, by rw [kept]⟩
  · have number : (t.chan c).len.toNat = k := by rw [written]; exact hk.ring.frameLen_toNat le
    exact ⟨⟨ring, by omega⟩, by omega⟩

theorem execAll_frameAfter {is : List Instr} {s t : State} {c : Chan} {k : Nat} (pos : 1 ≤ (s.cap c).toNat)
    (hk : (s.chan c).FrameAfter (s.cap c) k) (noRearm : ∀ i ∈ is, rearms c i = false)
    (le : k + dxfers c is ≤ (s.cap c).toNat) (h : execAll is s = .next t) :
    (t.chan c).FrameAfter (s.cap c) (k + dxfers c is) ∧ (s.chan c).len.toNat ≤ (t.chan c).len.toNat := by
  induction is generalizing s k with
  | nil =>
    cases h
    exact ⟨hk, le_rfl⟩
  | cons i rest ih =>
    obtain ⟨u, hu, ht⟩ := execAll_cons_next h
    obtain ⟨hri, hrest⟩ := List.forall_mem_cons.mp noRearm
    rw [dxfers_cons, ← Nat.add_assoc] at le ⊢
    obtain ⟨next, grows⟩ := exec_frameAfter pos hk hri (by omega) hu
    rw [← State.cap_of_cfg (exec_cfg hu)] at pos next le ⊢
    obtain ⟨final, grows'⟩ := ih pos next hrest le ht
    exact ⟨final, grows.trans grows'⟩

/-- Settles O56: the length is 0 right after ArmDma, and each write of it writes the number of transfers so far. -/
theorem lengthIsMonotonicWithinAFrame : Obligations.LengthIsMonotonicWithinAFrame := by
  intro s u t c xs ys hw inv fresh noRearm before after atMost
  have pos : 1 ≤ (s.cap c).toNat := (Config.wf_chan hw c).1
  obtain ⟨noRearmXs, noRearmYs⟩ := List.forall_mem_append.mp noRearm
  have sameCap : u.cap c = s.cap c := State.cap_of_cfg (execAll_cfg before) c
  have start : (s.chan c).FrameAfter (s.cap c) 0 := by
    obtain ⟨on, full, ftf⟩ := fresh
    obtain ⟨-, -, -, -, -, -, unmoved, -⟩ := (inv.chan c).armed on
    exact ⟨State.freshlyArmed.ringAfter_zero ⟨on, full, ftf⟩ pos, by simp [(unmoved ⟨full, ftf⟩).1]⟩
  rw [show dxfers c (xs ++ ys) = dxfers c xs + dxfers c ys from List.countP_append] at atMost
  obtain ⟨atU, -⟩ := execAll_frameAfter pos start noRearmXs (by omega) before
  rw [← sameCap] at pos atU atMost
  exact (execAll_frameAfter pos atU noRearmYs (by omega) after).2

end Sys2Proof.Machine
end

section
/-! PROOFS. The frame timer over runs: the expiry law (42_frame_timer.md R184) and progress under weak fairness (R186;
10_state.md R23). -/

namespace Sys2Proof.Machine

/-! ### What leaves the timer alone -/

/-- The channel is still initialised, and its timer and UPIF are as before. -/
structure Channel.SameTimer (x y : Channel) : Prop where
  inited : y.inited = x.inited
  ten : y.ten = x.ten
  tcnt : y.tcnt = x.tcnt
  upif : y.upif = x.upif

theorem Channel.sameTimer_transferred (x : Channel) (cap : Half) : x.SameTimer (x.transferred cap) := by
  unfold Channel.transferred
  split <;> exact ⟨rfl, rfl, rfl, rfl⟩

/-- On an initialised channel only its FTICK, DIDLE, DEXP, RESET and PRST touch the timer and UPIF. -/
theorem ChanStep.sameTimer {cfg : Config} {c : Chan} {x y : Channel} {i : Instr} (h : ChanStep cfg c x i y)
    (on : x.inited = true) (noRearm : rearms c i = false)
    (other : i ≠ .evFtick c ∧ i ≠ .evDidle c ∧ i ≠ .evDexp c) : x.SameTimer y := by
  obtain ⟨notFtick, notDidle, notDexp⟩ := other
  cases h with
  | init off => exact absurd (off.symm.trans on) (by decide)
  | reset | prst => simp [rearms] at noRearm
  | ftick => exact absurd rfl notFtick
  | didle => exact absurd rfl notDidle
  | dexp => exact absurd rfl notDexp
  | dxfer => exact x.sameTimer_transferred _
  | same | baud | byteHeld | byteOverrun | idle | derr => exact ⟨rfl, rfl, rfl, rfl⟩

/-- IDLEF is raised by the line alone and lowered by DIDLE alone, re-arms apart. -/
theorem ChanStep.idlef {cfg : Config} {c : Chan} {x y : Channel} {i : Instr} (h : ChanStep cfg c x i y)
    (on : x.inited = true) (noRearm : rearms c i = false) (other : i ≠ .evIdle c ∧ i ≠ .evDidle c) :
    y.idlef = x.idlef := by
  cases h with
  | init off => exact absurd (off.symm.trans on) (by decide)
  | reset | prst => simp [rearms] at noRearm
  | idle => exact absurd rfl other.1
  | didle => exact absurd rfl other.2
  | ftick =>
    unfold Channel.timerTicked
    split <;> rfl
  | dxfer =>
    unfold Channel.transferred
    split <;> rfl
  | same | baud | byteHeld | byteOverrun | derr | dexp => rfl

/-- An initialised channel stays so until PRST. -/
theorem ChanStep.inited {cfg : Config} {c : Chan} {x y : Channel} {i : Instr} (h : ChanStep cfg c x i y)
    (on : x.inited = true) (noRearm : rearms c i = false) : y.inited = true := by
  cases h with
  | init => rfl
  | prst => simp [rearms] at noRearm
  | dxfer => exact Channel.transferred_inited.trans on
  | ftick => exact (x.sameRing_timerTicked _).1.trans on
  | didle => exact (x.sameRing_idleAction _).1.trans on
  | same | reset | baud | byteHeld | byteOverrun | idle | derr | dexp => exact on

/-! ### What FTICK, DIDLE and DEXP leave of the channel -/

theorem exec_evFtick_chan {s t : State} {c : Chan} (h : exec (.evFtick c) s = .next t) :
    (s.chan c).ten = true ∧ t.chan c = (s.chan c).timerTicked (s.tper c) := by
  obtain ⟨armed, rfl⟩ := whenEnabled_eq_next.mp ((exec_evFtick c s).symm.trans h)
  exact ⟨armed, State.setChan_chan_same _ _ _⟩

theorem exec_evDidle_chan {s t : State} {c : Chan} (h : exec (.evDidle c) s = .next t) :
    (s.chan c).idlef = true ∧ t.chan c = (s.chan c).idleAction (s.cap c) := by
  obtain ⟨pending, rfl⟩ := whenEnabled_eq_next.mp ((exec_evDidle c s).symm.trans h)
  exact ⟨pending, State.setChan_chan_same _ _ _⟩

theorem exec_evDexp_chan {s t : State} {c : Chan} (h : exec (.evDexp c) s = .next t) :
    (s.chan c).upif = true ∧ t.chan c = (s.chan c).expiryAction (s.cap c) := by
  obtain ⟨pending, rfl⟩ := whenEnabled_eq_next.mp ((exec_evDexp c s).symm.trans h)
  exact ⟨pending, State.setChan_chan_same _ _ _⟩

/-! ### The ticks since arming (R184) -/

/-- The timer `k` ticks after it was armed: it counts them, and the TPER-th has disarmed it. -/
structure Channel.TimerAfter (ch : Channel) (tper : BitVec 17) (k : Nat) : Prop where
  inited : ch.inited = true
  le : k ≤ tper.toNat
  counting : k < tper.toNat → ch.ten = true ∧ ch.tcnt.toNat = k ∧ ch.upif = false
  expired : k = tper.toNat → ch.ten = false ∧ ch.tcnt = 0#16

section
variable {ch : Channel} {tper : BitVec 17} {k : Nat}

/-- A timer that ticks has not counted TPER ticks yet. -/
theorem Channel.TimerAfter.lt_of_armed (h : ch.TimerAfter tper k) (armed : ch.ten = true) : k < tper.toNat := by
  refine Nat.lt_of_le_of_ne h.le fun e => ?_
  exact absurd ((h.expired e).1.symm.trans armed) (by decide)

theorem Channel.TimerAfter.ticked (h : ch.TimerAfter tper k) (le : tper.toNat ≤ 65536) (armed : ch.ten = true) :
    (ch.timerTicked tper).TimerAfter tper (k + 1) := by
  have lt := h.lt_of_armed armed
  obtain ⟨-, tcnt, upif⟩ := h.counting lt
  by_cases last : ch.tcnt.toNat + 1 = tper.toNat
  · rw [Channel.timerTicked_of_last last]
    exact ⟨h.inited, lt, fun more => by omega, fun _ => ⟨rfl, rfl⟩⟩
  · have up := Channel.timerTicked_tcnt_toNat le (by omega) last
    rw [Channel.timerTicked_of_not_last last] at up ⊢
    exact ⟨h.inited, lt, fun _ => ⟨armed, by omega, upif⟩, fun e => by omega⟩

theorem Channel.TimerAfter.of_sameTimer {y : Channel} (h : ch.TimerAfter tper k) (same : ch.SameTimer y) :
    y.TimerAfter tper k := by
  refine ⟨same.inited.trans h.inited, h.le, ?_, ?_⟩
  · rw [same.ten, same.tcnt, same.upif]
    exact h.counting
  · rw [same.ten, same.tcnt]
    exact h.expired

/-- DEXP is pending only after the TPER-th tick, and it does not touch the timer. -/
theorem Channel.TimerAfter.declared (h : ch.TimerAfter tper k) (cap : Half) (pending : ch.upif = true) :
    (ch.expiryAction cap).TimerAfter tper k := by
  refine ⟨h.inited, h.le, fun lt => ?_, h.expired⟩
  obtain ⟨-, -, upif⟩ := h.counting lt
  exact absurd (upif.symm.trans pending) (by decide)

end

theorem fticks_cons (c : Chan) (i : Instr) (is : List Instr) :
    fticks c (i :: is) = fticks c [i] + fticks c is := List.countP_append (l₁ := [i]) (l₂ := is)

theorem fticks_singleton_self (c : Chan) : fticks c [.evFtick c] = 1 := by simp [fticks]

theorem fticks_singleton_of_ne {c : Chan} {i : Instr} (h : i ≠ .evFtick c) : fticks c [i] = 0 := by
  simp [fticks, h]

theorem State.tper_of_cfg {s t : State} (h : t.cfg = s.cfg) (c : Chan) : t.tper c = s.tper c := by
  rw [State.tper, State.tper, h]

theorem exec_timerAfter {i : Instr} {s t : State} {c : Chan} {k : Nat} (le : (s.tper c).toNat ≤ 65536)
    (hk : (s.chan c).TimerAfter (s.tper c) k) (quiet : rearms c i = false ∧ i ≠ .evDidle c)
    (h : exec i s = .next t) : (t.chan c).TimerAfter (s.tper c) (k + fticks c [i]) := by
  obtain ⟨noRearm, notDidle⟩ := quiet
  by_cases tick : i = .evFtick c
  · subst tick
    obtain ⟨armed, chan⟩ := exec_evFtick_chan h
    rw [chan, fticks_singleton_self]
    exact hk.ticked le armed
  rw [fticks_singleton_of_ne tick, Nat.add_zero]
  by_cases declares : i = .evDexp c
  · subst declares
    obtain ⟨pending, chan⟩ := exec_evDexp_chan h
    rw [chan]
    exact hk.declared _ pending
  · exact hk.of_sameTimer ((exec_chanStep c h).sameTimer hk.inited noRearm ⟨tick, notDidle, declares⟩)

theorem execAll_timerAfter {is : List Instr} {s t : State} {c : Chan} {k : Nat} (le : (s.tper c).toNat ≤ 65536)
    (hk : (s.chan c).TimerAfter (s.tper c) k) (quiet : ∀ i ∈ is, rearms c i = false ∧ i ≠ .evDidle c)
    (h : execAll is s = .next t) : (t.chan c).TimerAfter (s.tper c) (k + fticks c is) := by
  induction is generalizing s k with
  | nil =>
    cases h
    exact hk
  | cons i rest ih =>
    obtain ⟨u, hu, ht⟩ := execAll_cons_next h
    obtain ⟨hq, hrest⟩ := List.forall_mem_cons.mp quiet
    have next := exec_timerAfter le hk hq hu
    rw [fticks_cons, ← Nat.add_assoc]
    rw [← State.tper_of_cfg (exec_cfg hu)] at le next ⊢
    exact ih le next hrest ht

/-- The run's last operation is the TPER-th tick: before it the timer stood one tick short, so the tick raises UPIF. -/
theorem upif_of_last_tick {is : List Instr} {s t : State} {c : Chan} (le : (s.tper c).toNat ≤ 65536)
    (start : (s.chan c).TimerAfter (s.tper c) 0) (quiet : ∀ i ∈ is, rearms c i = false ∧ i ≠ .evDidle c)
    (h : execAll is s = .next t) (full : fticks c is = (s.tper c).toNat) (last : is.getLast? = some (.evFtick c)) :
    (t.chan c).upif = true := by
  obtain ⟨before, rfl⟩ := List.getLast?_eq_some_iff.mp last
  obtain ⟨quietBefore, -⟩ := List.forall_mem_append.mp quiet
  obtain ⟨u, hu, ht⟩ := execAll_append_next h
  obtain ⟨v, hv, done⟩ := execAll_cons_next ht
  cases done
  rw [show fticks c (before ++ [.evFtick c]) = fticks c before + fticks c [.evFtick c] from List.countP_append,
    fticks_singleton_self] at full
  have timer := execAll_timerAfter le start quietBefore hu
  rw [Nat.zero_add] at timer
  obtain ⟨-, tcnt, -⟩ := timer.counting (by omega)
  obtain ⟨-, chan⟩ := exec_evFtick_chan hv
  rw [State.tper_of_cfg (execAll_cfg hu)] at chan
  rw [chan, Channel.timerTicked_of_last (by omega)]

/-- Settles O48: `TimerAfter`, kept along the run, at the number of ticks. -/
theorem timerExpiresOnItsLastTick : Obligations.TimerExpiresOnItsLastTick := by
  intro s t c is hw on armed zero upif quiet run
  obtain ⟨-, tperPos, le, -⟩ := Config.wf_chan hw c
  have start : (s.chan c).TimerAfter (s.tper c) 0 :=
    ⟨on, Nat.zero_le _, fun _ => ⟨armed, by simp [zero], upif⟩, fun e => absurd e (Nat.ne_of_lt tperPos)⟩
  have timer := execAll_timerAfter le start quiet run
  rw [Nat.zero_add] at timer
  refine ⟨timer.le, timer.counting, fun full => ?_⟩
  obtain ⟨ten, tcnt⟩ := timer.expired full
  exact ⟨ten, tcnt, upif_of_last_tick le start quiet run full⟩

/-! ### Progress under weak fairness (R186) -/

section
variable {op : Nat → Instr} {st : Nat → State}

theorem EndlessRun.cfg (run : EndlessRun op st) (n : Nat) : (st n).cfg = (st 0).cfg := by
  induction n with
  | zero => rfl
  | succ n ih => exact (exec_cfg (run n)).trans ih

theorem EndlessRun.blockInv (run : EndlessRun op st) (hw : (st 0).cfg.wf = true) (inv : BlockInv (st 0)) (n : Nat) :
    BlockInv (st n) := by
  induction n with
  | zero => exact inv
  | succ n ih => exact exec_blockInv (run.cfg n ▸ hw) ih (run n)

/-- A fair operation that is enabled wherever `Q` holds, and whose performance alone can end `Q`, is performed in a
state that meets `Q`. -/
theorem WeaklyFair.performed (fair : WeaklyFair op st) {i : Instr} (isFair : Instr.isFair i = true)
    {Q : Nat → Prop} {n : Nat} (start : Q n) (enabled : ∀ m, Q m → enabledIn i (st m))
    (keep : ∀ m, Q m → op m ≠ i → Q (m + 1)) : ∃ m, op m = i ∧ Q m := by
  by_contra never
  have always (m : Nat) (le : n ≤ m) : Q m := by
    induction m, le using Nat.le_induction with
    | base => exact start
    | succ m _ ih => exact keep m ih fun performed => never ⟨m, performed, ih⟩
  obtain ⟨m, le, performed⟩ := fair i isFair n fun m le => enabled m (always m le)
  exact never ⟨m, performed, always m le⟩

/-- An upper bound of the ticks until the timer expires: a pending idle action may still restart it once. -/
def Channel.ticksLeft (ch : Channel) (tper : BitVec 17) : Nat :=
  (if ch.idlef then tper.toNat else 0) + (tper.toNat - ch.tcnt.toNat)

/-- DIDLE keeps the timer armed and uses up the restart it was allowed. -/
theorem Channel.idleAction_ticksLeft {ch : Channel} {cap : Half} {tper : BitVec 17} (pending : ch.idlef = true)
    (armed : ch.ten = true) :
    (ch.idleAction cap).ten = true ∧ (ch.idleAction cap).ticksLeft tper ≤ ch.ticksLeft tper := by
  by_cases spurious : ch.frameLen cap = 0#16
  · rw [Channel.idleAction_of_frameLen_eq_zero spurious]
    exact ⟨armed, by simp [Channel.ticksLeft, pending]⟩
  · rw [Channel.idleAction_of_frameLen_ne_zero spurious]
    exact ⟨rfl, by simp [Channel.ticksLeft, pending]⟩

/-- A tick raises UPIF, or the timer stays armed with fewer ticks left. -/
theorem Channel.timerTicked_ticksLeft {ch : Channel} {tper : BitVec 17} (le : tper.toNat ≤ 65536)
    (armed : ch.ten = true) (lt : ch.tcnt.toNat < tper.toNat) :
    (ch.timerTicked tper).upif = true ∨
      (ch.timerTicked tper).ten = true ∧ (ch.timerTicked tper).ticksLeft tper < ch.ticksLeft tper := by
  by_cases last : ch.tcnt.toNat + 1 = tper.toNat
  · rw [Channel.timerTicked_of_last last]
    exact .inl rfl
  · have up := Channel.timerTicked_tcnt_toNat le lt last
    rw [Channel.timerTicked_of_not_last last] at up ⊢
    simp only at up
    refine .inr ⟨armed, ?_⟩
    simp only [Channel.ticksLeft]
    omega

/-- The timer is armed, with at most `k` ticks left. -/
structure State.ArmedWithin (s : State) (c : Chan) (k : Nat) : Prop where
  inited : (s.chan c).inited = true
  ten : (s.chan c).ten = true
  left : (s.chan c).ticksLeft (s.tper c) ≤ k

/-- On a quiet line the timer stays armed until it ticks, and nothing adds ticks to those left. -/
theorem exec_armedWithin {i : Instr} {s t : State} {c : Chan} {k : Nat} (h : s.ArmedWithin c k)
    (noRearm : rearms c i = false) (noIdle : i ≠ .evIdle c) (notTick : i ≠ .evFtick c) (run : exec i s = .next t) :
    t.ArmedWithin c k := by
  obtain ⟨on, armed, left⟩ := h
  have step := exec_chanStep c run
  have live := step.inited on noRearm
  have sameTper := State.tper_of_cfg (exec_cfg run) c
  by_cases idles : i = .evDidle c
  · subst idles
    obtain ⟨pending, chan⟩ := exec_evDidle_chan run
    obtain ⟨ten, less⟩ := Channel.idleAction_ticksLeft (cap := s.cap c) (tper := s.tper c) pending armed
    rw [← chan] at ten less
    exact ⟨live, ten, by rw [sameTper]; omega⟩
  have idlef := step.idlef on noRearm ⟨noIdle, idles⟩
  have timer : (t.chan c).ten = (s.chan c).ten ∧ (t.chan c).tcnt = (s.chan c).tcnt := by
    by_cases declares : i = .evDexp c
    · subst declares
      obtain ⟨-, chan⟩ := exec_evDexp_chan run
      rw [chan]
      exact ⟨rfl, rfl⟩
    · have same := step.sameTimer on noRearm ⟨notTick, idles, declares⟩
      exact ⟨same.ten, same.tcnt⟩
  exact ⟨live, timer.1.trans armed, by rwa [sameTper, Channel.ticksLeft, idlef, timer.2]⟩

/-- An armed timer on a quiet line expires: each tick that fairness brings leaves fewer to come. -/
theorem exists_upif_of_armedWithin {c : Chan} (run : EndlessRun op st) (fair : WeaklyFair op st)
    (hw : (st 0).cfg.wf = true) (inv : BlockInv (st 0)) (quiet : ∀ n, rearms c (op n) = false ∧ op n ≠ .evIdle c)
    {k n : Nat} (h : (st n).ArmedWithin c k) : ∃ m, ((st m).chan c).upif = true := by
  induction k using Nat.strong_induction_on generalizing n with
  | _ k ih =>
    obtain ⟨m, tick, ⟨on, armed, left⟩⟩ := fair.performed (i := .evFtick c) (Q := fun m => (st m).ArmedWithin c k) rfl h
      (fun m hm off => absurd (exec_evFtick_eq_notEnabled.mp off) (by simp [hm.ten]))
      (fun m hm notTick => exec_armedWithin hm (quiet m).1 (quiet m).2 notTick (run m))
    have step := run m
    rw [tick] at step
    obtain ⟨-, chan⟩ := exec_evFtick_chan step
    have le : ((st m).tper c).toNat ≤ 65536 := (Config.wf_chan (run.cfg m ▸ hw) c).2.2.1
    obtain ⟨-, -, -, -, ticking, -⟩ := ((run.blockInv hw inv m).chan c).armed on
    have sameTper := State.tper_of_cfg (exec_cfg step) c
    rcases Channel.timerTicked_ticksLeft le armed (ticking armed) with upif | ⟨ten, less⟩
    · exact ⟨m + 1, by rw [chan, upif]⟩
    · rw [← chan] at ten less
      have live := (exec_chanStep c step).inited on (tick ▸ (quiet m).1)
      exact ih _ (by omega : ((st (m + 1)).chan c).ticksLeft ((st m).tper c) < k)
        ⟨live, ten, by rw [sameTper]⟩

/-- UPIF stays pending until DEXP: a tick can only raise it and DIDLE does not touch it. -/
theorem exec_upif {i : Instr} {s t : State} {c : Chan} (on : (s.chan c).inited = true)
    (pending : (s.chan c).upif = true) (noRearm : rearms c i = false) (notDexp : i ≠ .evDexp c) (run : exec i s = .next t) :
    (t.chan c).upif = true := by
  by_cases tick : i = .evFtick c
  · subst tick
    rw [(exec_evFtick_chan run).2, Channel.timerTicked]
    split
    · rfl
    · exact pending
  by_cases idles : i = .evDidle c
  · subst idles
    rw [(exec_evDidle_chan run).2, Channel.idleAction]
    split <;> exact pending
  · rw [((exec_chanStep c run).sameTimer on noRearm ⟨tick, idles, notDexp⟩).upif, pending]

theorem Channel.frameState_expiryAction {ch : Channel} (cap : Half) (on : ch.inited = true) :
    (ch.expiryAction cap).frameState = .frameReady := by
  simp [Channel.frameState, Channel.expiryAction, on]

/-- A pending expiry is declared: fairness brings its DEXP. -/
theorem exists_frameReady_of_upif {c : Chan} (run : EndlessRun op st) (fair : WeaklyFair op st)
    (noRearm : ∀ n, rearms c (op n) = false) {n : Nat} (on : ((st n).chan c).inited = true)
    (pending : ((st n).chan c).upif = true) : ∃ m, ((st m).chan c).frameState = .frameReady := by
  obtain ⟨m, declares, on, pending⟩ := fair.performed (i := .evDexp c)
    (Q := fun m => ((st m).chan c).inited = true ∧ ((st m).chan c).upif = true) rfl ⟨on, pending⟩
    (fun m hm off => absurd (exec_evDexp_eq_notEnabled.mp off) (by simp [hm.2]))
    (fun m hm notDexp => ⟨(exec_chanStep c (run m)).inited hm.1 (noRearm m),
      exec_upif hm.1 hm.2 (noRearm m) notDexp (run m)⟩)
  have step := run m
  rw [declares] at step
  exact ⟨m + 1, by rw [(exec_evDexp_chan step).2, Channel.frameState_expiryAction _ on]⟩

end

/-- Settles O49: the armed timer expires, and its pending expiry is then declared. -/
theorem quietLineLeadsToFrameReady : Obligations.QuietLineLeadsToFrameReady := by
  intro op st c run fair hw inv armed quiet
  have on := (inv.chan c).inited (.inr (.inl armed))
  obtain ⟨n, pending⟩ := exists_upif_of_armedWithin run fair hw inv quiet (n := 0) ⟨on, armed, le_rfl⟩
  have live := ((run.blockInv hw inv n).chan c).inited (.inr (.inr (.inr pending)))
  exact ⟨⟨n, pending⟩, exists_frameReady_of_upif run fair (fun m => (quiet m).1) live pending⟩

end Sys2Proof.Machine
end

section
/-! PROOFS. The detector's laws: spurious idle, the frame states, completion, the sentinel and the frozen frame
(43_frame_detector.md R193, R195, R196, R198, R199, R201). -/

namespace Sys2Proof.Machine

/-! ### Spurious idle (R193) -/

theorem State.cap_ne_zero {s : State} (hw : s.cfg.wf = true) (c : Chan) : s.cap c ≠ 0#16 := by
  have pos : 1 ≤ (s.cap c).toNat := (Config.wf_chan hw c).1
  intro zero
  rw [zero] at pos
  exact absurd pos (by decide)

/-- Settles O52: with a full count and FTF clear the detector's length is 0, and the invariant says that nothing is
pending. -/
theorem spuriousIdleChangesOnlyIdlef : Obligations.SpuriousIdleChangesOnlyIdlef := by
  intro s c hw inv full ftf
  have ok := inv.chan c
  have spurious : (s.chan c).frameLen (s.cap c) = 0#16 := 
    (Channel.frameLen_eq_zero (State.cap_ne_zero hw c)).mpr ⟨full, ftf⟩
  refine ⟨fun pending => ⟨_, exec_of_enabled (exec_evDidle c s) pending, ?_, memSame_setChan_done c _ s⟩, ?_⟩
  · obtain ⟨-, -, -, -, -, -, unmoved, -⟩ := ok.armed (ok.inited (.inr (.inr (.inl pending))))
    rw [Channel.idleAction_of_frameLen_eq_zero spurious, ← (unmoved ⟨full, ftf⟩).1]
    exact chanBecomes_setChan_done c _ s
  · by_contra on
    have pending : (s.chan c).upif = true := by simpa using on
    exact (ok.armed (ok.inited (.inr (.inr (.inr pending))))).frameLen_ne_zero pending spurious

/-! ### The frame states (10_state.md R45) -/

section
variable {ch : Channel}

/-- The frame state of an initialised channel. -/
theorem Channel.frameState_of_inited (on : ch.inited = true) :
    ch.frameState =
      if ch.cflag = 1#2 then .frameReady else if ch.ten = true ∨ ch.upif = true then .timerArmed else .idle := by
  rw [Channel.frameState, on, if_neg (by decide)]

theorem Channel.frameState_of_ready (on : ch.inited = true) (ready : ch.cflag = 1#2) :
    ch.frameState = .frameReady := by
  rw [Channel.frameState_of_inited on, if_pos ready]

theorem Channel.frameState_of_untimed (on : ch.inited = true) (notReady : ch.cflag ≠ 1#2)
    (untimed : ¬ (ch.ten = true ∨ ch.upif = true)) : ch.frameState = .idle := by
  rw [Channel.frameState_of_inited on, if_neg notReady, if_neg untimed]

/-- The frame state of a channel whose timer is armed or has expired. -/
theorem Channel.frameState_of_timing (on : ch.inited = true) (timing : ch.ten = true ∨ ch.upif = true) :
    ch.frameState = if ch.cflag = 1#2 then .frameReady else .timerArmed := by
  rw [Channel.frameState_of_inited on, if_pos timing]

theorem Channel.frameState_eq_uninit : ch.frameState = .uninit ↔ ch.inited = false := by
  cases on : ch.inited with
  | false => simp [Channel.frameState, on]
  | true =>
    rw [Channel.frameState_of_inited on]
    by_cases ready : ch.cflag = 1#2
    · simp [ready]
    · by_cases timing : ch.ten = true ∨ ch.upif = true <;> simp [ready, timing]

theorem Channel.inited_of_frameState_ne_uninit (h : ch.frameState ≠ .uninit) : ch.inited = true := by
  simpa using mt Channel.frameState_eq_uninit.mpr h

theorem Channel.frameState_transferred (cap : Half) : (ch.transferred cap).frameState = ch.frameState := by
  unfold Channel.transferred
  split <;> rfl

/-- A tick expires the timer or leaves it armed, which is the same frame state. -/
theorem Channel.frameState_timerTicked (tper : BitVec 17) (on : ch.inited = true) (armed : ch.ten = true) :
    (ch.timerTicked tper).frameState = ch.frameState := by
  have timing : (ch.timerTicked tper).ten = true ∨ (ch.timerTicked tper).upif = true := by
    unfold Channel.timerTicked
    split
    · exact .inr rfl
    · exact .inl armed
  rw [Channel.frameState_of_timing on (.inl armed),
    Channel.frameState_of_timing ((ch.sameRing_timerTicked tper).1.trans on) timing, Channel.timerTicked_cflag]

/-- A spurious idle keeps the frame state. -/
theorem Channel.frameState_idleAction_of_spurious {cap : Half} (spurious : ch.frameLen cap = 0#16) :
    (ch.idleAction cap).frameState = ch.frameState := by
  rw [Channel.idleAction_of_frameLen_eq_zero spurious]
  rfl

/-- Any other idle arms the timer. -/
theorem Channel.frameState_idleAction {cap : Half} (on : ch.inited = true) (valid : ch.frameLen cap ≠ 0#16) :
    (ch.idleAction cap).frameState = if ch.cflag = 1#2 then .frameReady else .timerArmed := by
  rw [Channel.idleAction_of_frameLen_ne_zero valid]
  exact Channel.frameState_of_timing on (.inl rfl)

end

/-! ### The transitions of the frame state (R196) -/

/-- The rows of R196 that change the frame state, and the operations that do. -/
def FrameMove (c : Chan) (i : Instr) (f g : FrameState) : Prop :=
  (f = .uninit ∧ g = .idle ∧ i = .cmdInit c) ∨
  (f = .idle ∧ g = .timerArmed ∧ i = .evDidle c) ∨
  (f = .timerArmed ∧ g = .frameReady ∧ i = .evDexp c) ∨
  ((f = .frameReady ∨ f = .timerArmed) ∧ g = .idle ∧ i = .cmdReset c) ∨
  (f ≠ .uninit ∧ g = .uninit ∧ i = .cmdPrst c)

theorem ChanStep.frameMove {cfg : Config} {c : Chan} {x y : Channel} {i : Instr} (ok : ChanOk cfg c x)
    (h : ChanStep cfg c x i y) (moved : x.frameState ≠ y.frameState) : FrameMove c i x.frameState y.frameState := by
  cases h with
  | same | baud | byteHeld | byteOverrun | idle | derr => exact absurd rfl moved
  | dxfer => exact absurd (Channel.frameState_transferred _).symm moved
  | ftick armed => exact absurd (Channel.frameState_timerTicked _ (ok.inited (.inr (.inl armed))) armed).symm moved
  | init off => exact .inl ⟨Channel.frameState_eq_uninit.mpr off, Channel.frameState_afterInit _ _, rfl⟩
  | prst => exact .inr (.inr (.inr (.inr ⟨moved, rfl, rfl⟩)))
  | reset on =>
    have idle := Channel.frameState_afterReset (cfg.ch.get c).cap on
    refine .inr (.inr (.inr (.inl ⟨?_, idle, rfl⟩)))
    rw [idle] at moved
    by_cases timing : x.ten = true ∨ x.upif = true
    · rw [Channel.frameState_of_timing on timing]
      split
      · exact .inl rfl
      · exact .inr rfl
    · by_cases ready : x.cflag = 1#2
      · exact .inl (Channel.frameState_of_ready on ready)
      · exact absurd (Channel.frameState_of_untimed on ready timing) moved
  | didle pending =>
    have on := ok.inited (.inr (.inr (.inl pending)))
    by_cases spurious : x.frameLen (cfg.ch.get c).cap = 0#16
    · exact absurd (Channel.frameState_idleAction_of_spurious spurious).symm moved
    have after := Channel.frameState_idleAction on spurious
    by_cases timing : x.ten = true ∨ x.upif = true
    · exact absurd ((Channel.frameState_of_timing on timing).trans after.symm) moved
    · by_cases ready : x.cflag = 1#2
      · rw [if_pos ready] at after
        exact absurd ((Channel.frameState_of_ready on ready).trans after.symm) moved
      · rw [if_neg ready] at after
        exact .inr (.inl ⟨Channel.frameState_of_untimed on ready timing, after, rfl⟩)
  | dexp pending =>
    have on := ok.inited (.inr (.inr (.inr pending)))
    have after := Channel.frameState_expiryAction (cfg.ch.get c).cap on
    by_cases ready : x.cflag = 1#2
    · exact absurd ((Channel.frameState_of_ready on ready).trans after.symm) moved
    · refine .inr (.inr (.inl ⟨?_, after, rfl⟩))
      rw [Channel.frameState_of_timing on (.inr pending), if_neg ready]

theorem Channel.frameState_eq_frameReady {ch : Channel} (h : ch.frameState = .frameReady) :
    ch.inited = true ∧ ch.cflag = 1#2 := by
  have on : ch.inited = true := Channel.inited_of_frameState_ne_uninit (by rw [h]; decide)
  refine ⟨on, ?_⟩
  by_contra notReady
  rw [Channel.frameState_of_inited on, if_neg notReady] at h
  split at h <;> cases h

section
variable {s t : State} {c : Chan}

theorem exec_cmdInit_frameState (uninit : (s.chan c).frameState = .uninit) (h : exec (.cmdInit c) s = .next t) :
    (t.chan c).frameState = .idle := by
  rw [exec_cmdInit_of_not_inited (Channel.frameState_eq_uninit.mp uninit)] at h
  cases h
  rw [State.done_chan, State.setChan_chan_same, Channel.frameState_afterInit]

theorem exec_cmdReset_frameState (live : (s.chan c).frameState ≠ .uninit) (h : exec (.cmdReset c) s = .next t) :
    (t.chan c).frameState = .idle := by
  have on := Channel.inited_of_frameState_ne_uninit live
  rw [exec_cmdReset_of_inited on] at h
  cases h
  rw [State.done_chan, State.setChan_chan_same, Channel.frameState_afterReset _ on]

theorem exec_cmdPrst_frameState (h : exec (.cmdPrst c) s = .next t) : (t.chan c).frameState = .uninit := by
  rw [exec_cmdPrst] at h
  cases h
  rw [State.done_chan, State.setChan_chan_same]
  rfl

theorem exec_evFtick_frameState (inv : BlockInv s) (h : exec (.evFtick c) s = .next t) :
    (t.chan c).frameState = (s.chan c).frameState := by
  obtain ⟨armed, chan⟩ := exec_evFtick_chan h
  rw [chan, Channel.frameState_timerTicked _ ((inv.chan c).inited (.inr (.inl armed))) armed]

theorem exec_evDexp_frameState (inv : BlockInv s) (h : exec (.evDexp c) s = .next t) :
    (t.chan c).frameState = .frameReady := by
  obtain ⟨pending, chan⟩ := exec_evDexp_chan h
  rw [chan, Channel.frameState_expiryAction _ ((inv.chan c).inited (.inr (.inr (.inr pending))))]

/-- What DIDLE makes of the frame state: a spurious idle keeps it, any other arms the timer unless the frame is
ready. -/
theorem exec_evDidle_frameState (hw : s.cfg.wf = true) (inv : BlockInv s) (h : exec (.evDidle c) s = .next t) :
    (t.chan c).frameState =
      if (s.chan c).cnt = s.cap c ∧ (s.chan c).ftf = false then (s.chan c).frameState
      else if (s.chan c).frameState = .frameReady then .frameReady else .timerArmed := by
  obtain ⟨pending, chan⟩ := exec_evDidle_chan h
  have on := (inv.chan c).inited (.inr (.inr (.inl pending)))
  have zero_iff := Channel.frameLen_eq_zero (ch := s.chan c) (State.cap_ne_zero hw c)
  rw [chan]
  split
  · rename_i full
    exact Channel.frameState_idleAction_of_spurious (zero_iff.mpr full)
  · rename_i moved
    rw [Channel.frameState_idleAction on (mt zero_iff.mp moved)]
    by_cases ready : (s.chan c).cflag = 1#2
    · rw [if_pos ready, if_pos (Channel.frameState_of_ready on ready)]
    · rw [if_neg ready, if_neg fun frameReady => ready (Channel.frameState_eq_frameReady frameReady).2]

end

/-- Settles O55: a change of frame state is a row of R196 by the channel's step; each row is what its operation does. -/
theorem frameStateTransitions : Obligations.FrameStateTransitions := by
  intro i s t c hw inv h
  refine ⟨(exec_chanStep c h).frameMove (inv.chan c), ?_, ?_, ?_, ?_, ?_, ?_, ?_⟩
  · rintro rfl uninit
    exact exec_cmdInit_frameState uninit h
  · rintro rfl idle
    rw [exec_evDidle_frameState hw inv h, idle]
    rfl
  · rintro (rfl | rfl) timing
    · rw [exec_evDidle_frameState hw inv h, timing]
      exact ite_self _
    · rw [exec_evFtick_frameState inv h, timing]
  · rintro rfl -
    exact exec_evDexp_frameState inv h
  · rintro rfl live
    exact exec_cmdReset_frameState live h
  · rintro (rfl | rfl | rfl) ready
    · rw [exec_evDidle_frameState hw inv h, ready]
      exact ite_self _
    · exact exec_evDexp_frameState inv h
    · rw [exec_evFtick_frameState inv h, ready]
  · rintro rfl
    exact exec_cmdPrst_frameState h

/-! ### Completion (R198, R199) -/

/-- Without a re-arm a declared frame stays declared. -/
theorem ChanStep.cflag {cfg : Config} {c : Chan} {x y : Channel} {i : Instr} (h : ChanStep cfg c x i y)
    (on : x.inited = true) (noRearm : rearms c i = false) (ready : x.cflag = 1#2) : y.cflag = 1#2 := by
  cases h with
  | init off => exact absurd (off.symm.trans on) (by decide)
  | reset | prst => simp [rearms] at noRearm
  | dexp => rfl
  | dxfer => rw [Channel.transferred_cflag, ready]
  | ftick => rw [Channel.timerTicked_cflag, ready]
  | didle => rw [Channel.idleAction_cflag, ready]
  | same | baud | byteHeld | byteOverrun | idle | derr => exact ready

theorem execAll_inited {is : List Instr} {s t : State} {c : Chan} (on : (s.chan c).inited = true)
    (noRearm : ∀ i ∈ is, rearms c i = false) (h : execAll is s = .next t) : (t.chan c).inited = true :=
  execAll_keeps (P := fun x => (x.chan c).inited = true) (ok := fun i => rearms c i = false)
    (fun _ _ _ ok on hx => (exec_chanStep c hx).inited on ok) noRearm on h

/-- Settles O57: the channel stays initialised, and from the point where CFLAG is 1 every operation keeps it. -/
theorem completionHappensAtMostOnce : Obligations.CompletionHappensAtMostOnce := by
  intro s u t c xs ys on noRearm before after ready
  obtain ⟨noRearmXs, noRearmYs⟩ := List.forall_mem_append.mp noRearm
  have kept := execAll_keeps (P := fun x => (x.chan c).inited = true ∧ (x.chan c).cflag = 1#2)
    (ok := fun i => rearms c i = false)
    (fun _ _ _ ok ⟨on, ready⟩ hx => ⟨(exec_chanStep c hx).inited on ok, (exec_chanStep c hx).cflag on ok ready⟩)
    noRearmYs ⟨execAll_inited on noRearmXs before, ready⟩ after
  exact kept.2

/-- The detector's length depends on the count and FTF, which neither action touches. -/
theorem Channel.frameLen_idleAction (ch : Channel) (cap : Half) : (ch.idleAction cap).frameLen cap = ch.frameLen cap :=
  Channel.frameLen_congr (ch.sameRing_idleAction cap).2.1 (ch.sameRing_idleAction cap).2.2

theorem Channel.idleAction_upif (ch : Channel) (cap : Half) : (ch.idleAction cap).upif = ch.upif := by
  unfold Channel.idleAction
  split <;> rfl

/-- The two actions write the same length, and otherwise different fields. -/
theorem Channel.idleAction_expiryAction (ch : Channel) (cap : Half) :
    (ch.expiryAction cap).idleAction cap = (ch.idleAction cap).expiryAction cap := by
  have sameLen : (ch.expiryAction cap).frameLen cap = ch.frameLen cap := Channel.frameLen_congr rfl rfl
  by_cases spurious : ch.frameLen cap = 0#16
  · rw [Channel.idleAction_of_frameLen_eq_zero (sameLen.trans spurious), Channel.expiryAction, Channel.expiryAction,
      Channel.frameLen_idleAction, Channel.idleAction_of_frameLen_eq_zero spurious, spurious]
  · rw [Channel.idleAction_of_frameLen_ne_zero (fun e => spurious (sameLen.symm.trans e)), sameLen,
      Channel.expiryAction, Channel.expiryAction, Channel.frameLen_idleAction,
      Channel.idleAction_of_frameLen_ne_zero spurious]

/-- Replacing a channel twice leaves the second value, whatever was stored before. -/
theorem State.setChan_done_setChan (s : State) (c : Chan) (x y : Channel) :
    ((s.setChan c x).done.setChan c y).done = (s.setChan c y).done := by
  simp [State.setChan, State.done]

theorem State.setChan_done_storeByte_setChan (s : State) (c : Chan) (x y : Channel) (a : Word) (b : Byte) :
    (((s.setChan c x).done.storeByte a b).setChan c y).done = ((s.storeByte a b).setChan c y).done := by
  simp [State.setChan, State.done, State.storeByte]

/-- The state both orders end in: the sentinel stored, and the channel after both actions. -/
def State.afterBothActions (s : State) (c : Chan) : State :=
  ((s.storeByte (s.sentinelAddr c) sentinel).setChan c (((s.chan c).idleAction (s.cap c)).expiryAction (s.cap c))).done

section
variable {s : State} {c : Chan} (idles : (s.chan c).idlef = true) (expired : (s.chan c).upif = true)
include idles expired

theorem execAll_dexp_didle : execAll [.evDexp c, .evDidle c] s = .next (s.afterBothActions c) := by
  have stillIdles : ((s.chan c).expiryAction (s.cap c)).idlef = true := idles
  rw [execAll_cons_of_next (exec_of_enabled (exec_evDexp c s) expired)]
  simp [execAll, exec_evDidle, stillIdles, State.setChan_done_setChan, Channel.idleAction_expiryAction,
    State.afterBothActions]

theorem execAll_didle_dexp : execAll [.evDidle c, .evDexp c] s = .next (s.afterBothActions c) := by
  have stillExpired : ((s.chan c).idleAction (s.cap c)).upif = true := (Channel.idleAction_upif _ _).trans expired
  have sameAddr : (s.setChan c ((s.chan c).idleAction (s.cap c))).done.sentinelAddr c = s.sentinelAddr c := by
    rw [State.sentinelAddr, State.done_chan, State.setChan_chan_same, State.done_cap, State.setChan_cap,
      Channel.frameLen_idleAction]
    rfl
  rw [execAll_cons_of_next (exec_of_enabled (exec_evDidle c s) idles)]
  simp [execAll, exec_evDexp, stillExpired, sameAddr, State.setChan_done_storeByte_setChan, State.afterBothActions]

end

/-- Settles O58: both orders store the sentinel at the same address and leave the same channel. -/
theorem pendingActionsCommute : Obligations.PendingActionsCommute := by
  intro s c idles expired
  refine ⟨_, execAll_dexp_didle idles expired, execAll_didle_dexp idles expired, ?_, ?_⟩ <;>
    rw [State.afterBothActions, State.done_chan, State.setChan_chan_same]
  · rfl
  · exact Channel.frameLen_idleAction _ _

end Sys2Proof.Machine
end

section
/-! PROOFS. The sentinel (43_frame_detector.md R195) and the frozen frame (R201). -/

namespace Sys2Proof.Machine

/-! ### What DXFER and DEXP do to the bytes of a buffer -/

theorem exec_evDxfer_enabled {s t : State} {c : Chan} (h : exec (.evDxfer c) s = .next t) :
    (s.chan c).den = true ∧ (s.chan c).hold ≠ none := by
  constructor
  · by_contra off
    exact noNext_evDxfer (.inl (by simpa using off)) t h
  · exact fun empty => noNext_evDxfer (.inr empty) t h

theorem exec_evDxfer_memByte_ne {s t : State} {c : Chan} (h : exec (.evDxfer c) s = .next t) {a : Nat}
    (ne : a ≠ (s.dmaAddr c).toNat) : t.memByte a = s.memByte a := by
  have step := exec_memStep h
  rw [State.memByte, State.memByte]
  generalize t.mem = m at step ⊢
  cases step with
  | same => rfl
  | dxfer _ b => exact Memory.byteAt_write_ne s.mem b ne

theorem exec_evDexp_memByte {s t : State} {c : Chan} (h : exec (.evDexp c) s = .next t) :
    t.memByte (s.sentinelAddr c).toNat = 0x00#8 ∧ MemSameBut (s.sentinelAddr c).toNat s t := by
  obtain ⟨-, rfl⟩ := whenEnabled_eq_next.mp ((exec_evDexp c s).symm.trans h)
  exact ⟨State.storeByte_memByte_same _ _ _, memSameBut_storeByte_setChan_done _ sentinel c _ s⟩

/-! ### A zero byte stays (R195) -/

/-- A zero byte of channel `c`'s buffer stays zero: DEXP stores only zeros, and DXFER stores no byte of the sentinel
slot `B + C`. -/
theorem exec_memByte_zero {i : Instr} {s t : State} {c : Chan} {a : Nat} (hw : s.cfg.wf = true) (inv : BlockInv s)
    (lo : s.cfg.bufLo c ≤ a) (hi : a ≤ s.cfg.bufHi c) (safe : i ≠ .evDxfer c ∨ a = s.cfg.bufHi c)
    (zero : s.memByte a = 0x00#8) (h : exec i s = .next t) : t.memByte a = 0x00#8 := by
  by_cases transfers : i = .evDxfer c
  · subst transfers
    have slot : a = s.cfg.bufHi c := safe.resolve_left (· rfl)
    obtain ⟨addr, cntPos⟩ := inv.dmaAddr_toNat hw (exec_evDxfer_enabled h).1
    have capPos : 1 ≤ (s.cap c).toNat := (Config.wf_chan hw c).1
    rw [exec_evDxfer_memByte_ne h, zero]
    rw [addr, slot, Config.bufHi, ← State.cap]
    omega
  by_cases declares : i = .evDexp c
  · subst declares
    obtain ⟨stored, same⟩ := exec_evDexp_memByte h
    by_cases there : a = (s.sentinelAddr c).toNat
    · rw [there, stored]
    · rw [same a there, zero]
  · rw [exec_memByte_inside hw inv h ⟨transfers, declares⟩ lo hi, zero]

theorem execAll_memByte_zero {is : List Instr} {s t : State} {c : Chan} {a : Nat} (hw : s.cfg.wf = true)
    (inv : BlockInv s) (lo : s.cfg.bufLo c ≤ a) (hi : a ≤ s.cfg.bufHi c)
    (safe : ∀ i ∈ is, i ≠ .evDxfer c ∨ a = s.cfg.bufHi c) (zero : s.memByte a = 0x00#8)
    (h : execAll is s = .next t) : t.memByte a = 0x00#8 := by
  have kept := execAll_keeps (P := fun x => x.cfg = s.cfg ∧ BlockInv x ∧ x.memByte a = 0x00#8)
    (ok := fun i => i ≠ .evDxfer c ∨ a = s.cfg.bufHi c)
    (fun i x y ok ⟨same, inv, zero⟩ hx => ⟨(exec_cfg hx).trans same, exec_blockInv (same ▸ hw) inv hx,
      exec_memByte_zero (same ▸ hw) inv (same ▸ lo) (same ▸ hi) (same ▸ ok) zero hx⟩)
    safe ⟨rfl, inv, zero⟩ h
  exact kept.2.2

/-- What DEXP declares: the detector's length, with a zero byte after the last valid one. -/
structure State.Declares (s u : State) (c : Chan) : Prop where
  len : (u.chan c).len = (s.chan c).frameLen (s.cap c)
  len_le : (u.chan c).len.toNat ≤ (s.cap c).toNat
  zero : u.memByte (s.cfg.bufLo c + (u.chan c).len.toNat) = 0x00#8

theorem exec_evDexp_declares {s u : State} {c : Chan} (hw : s.cfg.wf = true) (inv : BlockInv s)
    (h : exec (.evDexp c) s = .next u) : s.Declares u c := by
  obtain ⟨pending, chan⟩ := exec_evDexp_chan h
  obtain ⟨addr, le⟩ := inv.sentinelAddr_toNat hw pending
  have len : (u.chan c).len = (s.chan c).frameLen (s.cap c) := by rw [chan]; rfl
  exact ⟨len, by rw [len]; exact le, by rw [len, ← addr]; exact (exec_evDexp_memByte h).1⟩

/-- The next transfer after a frame shorter than the ring goes where its sentinel stands. -/
theorem dmaAddr_of_short_frame {s u : State} {c : Chan} (hw : s.cfg.wf = true) (inv : BlockInv s)
    (h : exec (.evDexp c) s = .next u) (short : (u.chan c).len ≠ s.cap c) :
    (u.dmaAddr c).toNat = s.cfg.bufLo c + (u.chan c).len.toNat := by
  obtain ⟨pending, chan⟩ := exec_evDexp_chan h
  have le : (s.chan c).cnt.toNat ≤ (s.cap c).toNat := ((inv.chan c).cnt_le (.inr (.inr (.inr pending)))).2
  have sameCfg := exec_cfg h
  have sameCnt : (u.chan c).cnt = (s.chan c).cnt := by rw [chan]; rfl
  have len := (exec_evDexp_declares hw inv h).len
  rw [State.dmaAddr_toNat (sameCfg ▸ hw) (by rw [sameCnt, State.cap_of_cfg sameCfg]; exact le), sameCfg, sameCnt,
    State.cap_of_cfg sameCfg, len, Channel.frameLen_toNat le, if_neg]
  rintro ⟨full, ftf⟩
  exact short (len.trans (if_pos ⟨Channel.rawLen_eq_zero.mpr full, ftf⟩))

/-- Settles O54: the sentinel is a zero byte of the buffer, that of a full frame in the sentinel slot. -/
theorem sentinelStaysUntilTheNextTransfer : Obligations.SentinelStaysUntilTheNextTransfer := by
  intro s u t c is hw inv declared run
  have sameCfg := exec_cfg declared
  have after := exec_blockInv hw inv declared
  obtain ⟨-, le, zero⟩ := exec_evDexp_declares hw inv declared
  have short := dmaAddr_of_short_frame hw inv declared
  rw [← sameCfg] at hw zero short ⊢
  rw [← State.cap_of_cfg sameCfg] at le short ⊢
  have stays (safe : ∀ i ∈ is, i ≠ .evDxfer c ∨ u.cfg.bufLo c + (u.chan c).len.toNat = u.cfg.bufHi c) :=
    execAll_memByte_zero hw after (Nat.le_add_right _ _) (Nat.add_le_add_left le _) safe zero run
  refine ⟨fun none => stays fun i mem => .inl ?_, fun full => ?_, short⟩
  · simpa using List.countP_eq_zero.mp none i mem
  · rw [full] at stays
    exact stays fun i _ => .inr rfl

/-! ### The frozen frame (R201) -/

/-- A byte comes to be held by the line alone. -/
theorem ChanStep.hold {cfg : Config} {c : Chan} {x y : Channel} {i : Instr} (h : ChanStep cfg c x i y)
    (noByte : ∀ b, i ≠ .evByte c b) (empty : x.hold = none) : y.hold = none := by
  cases h with
  | byteHeld b | byteOverrun b => exact absurd rfl (noByte b)
  | init | prst => rfl
  | dxfer =>
    unfold Channel.transferred
    split <;> rfl
  | ftick =>
    unfold Channel.timerTicked
    split <;> exact empty
  | didle =>
    unfold Channel.idleAction
    split <;> exact empty
  | same | reset | baud | idle | derr | dexp => exact empty

/-- The frame that `u` declares stands in `t` as it does in `u`, and the detector would declare it again. -/
structure State.FrozenAs (u t : State) (c : Chan) : Prop where
  cfg : t.cfg = u.cfg
  inv : BlockInv t
  inited : (t.chan c).inited = true
  empty : (t.chan c).hold = none
  ready : (t.chan c).cflag = 1#2
  len : (t.chan c).len = (u.chan c).len
  frameLen : (t.chan c).frameLen (u.cap c) = (u.chan c).len
  bytes : ∀ x, x ≤ (u.chan c).len.toNat → t.memByte (u.cfg.bufLo c + x) = u.memByte (u.cfg.bufLo c + x)

/-- A frozen frame's bytes stay: nothing is held, so there is no DXFER, and DEXP can only store the sentinel again. -/
theorem State.FrozenAs.bytes_exec {i : Instr} {u s t : State} {c : Chan} (hw : u.cfg.wf = true)
    (le : (u.chan c).len.toNat ≤ (u.cap c).toNat) (zero : u.memByte (u.cfg.bufLo c + (u.chan c).len.toNat) = 0x00#8)
    (frozen : u.FrozenAs s c) (h : exec i s = .next t) {x : Nat} (hx : x ≤ (u.chan c).len.toNat) :
    t.memByte (u.cfg.bufLo c + x) = u.memByte (u.cfg.bufLo c + x) := by
  have notDxfer : i ≠ .evDxfer c := by
    rintro rfl
    exact (exec_evDxfer_enabled h).2 frozen.empty
  have hws : s.cfg.wf = true := by rw [frozen.cfg, hw]
  rw [← frozen.bytes x hx]
  by_cases declares : i = .evDexp c
  · subst declares
    obtain ⟨stored, same⟩ := exec_evDexp_memByte h
    obtain ⟨addr, -⟩ := frozen.inv.sentinelAddr_toNat hws (exec_evDexp_chan h).1
    rw [frozen.cfg, State.cap_of_cfg frozen.cfg, frozen.frameLen] at addr
    by_cases there : x = (u.chan c).len.toNat
    · rw [there, ← addr, stored, addr, frozen.bytes _ le_rfl, zero]
    · exact same _ (by omega)
  · refine exec_memByte_inside hws frozen.inv h ⟨notDxfer, declares⟩ ?_ ?_
    · rw [frozen.cfg]
      exact Nat.le_add_right _ _
    · rw [frozen.cfg]
      exact Nat.add_le_add_left (hx.trans le) _

theorem State.FrozenAs.step {i : Instr} {u s t : State} {c : Chan} (hw : u.cfg.wf = true)
    (le : (u.chan c).len.toNat ≤ (u.cap c).toNat) (zero : u.memByte (u.cfg.bufLo c + (u.chan c).len.toNat) = 0x00#8)
    (frozen : u.FrozenAs s c) (noRearm : rearms c i = false) (noByte : ∀ b, i ≠ .evByte c b)
    (h : exec i s = .next t) : u.FrozenAs t c := by
  have chanStep := exec_chanStep c h
  have notDxfer : i ≠ .evDxfer c := by
    rintro rfl
    exact (exec_evDxfer_enabled h).2 frozen.empty
  obtain ⟨on, sameCnt, sameFtf⟩ := exec_sameRing frozen.inited noRearm notDxfer h
  have sameCap : (s.cfg.ch.get c).cap = u.cap c := State.cap_of_cfg frozen.cfg c
  refine ⟨(exec_cfg h).trans frozen.cfg, exec_blockInv (frozen.cfg ▸ hw) frozen.inv h, on.trans frozen.inited,
    chanStep.hold noByte frozen.empty, chanStep.cflag frozen.inited noRearm frozen.ready, ?_,
    (Channel.frameLen_congr sameCnt sameFtf).trans frozen.frameLen, fun x hx => frozen.bytes_exec hw le zero h hx⟩
  rcases chanStep.len frozen.inited noRearm with kept | ⟨-, written⟩
  · exact kept.trans frozen.len
  · rw [written, sameCap, frozen.frameLen]

/-- A frame declared while nothing is held is frozen. -/
theorem exec_evDexp_frozenAs {s u : State} {c : Chan} (hw : s.cfg.wf = true) (inv : BlockInv s)
    (empty : (s.chan c).hold = none) (h : exec (.evDexp c) s = .next u) : u.FrozenAs u c := by
  obtain ⟨pending, chan⟩ := exec_evDexp_chan h
  have on := (inv.chan c).inited (.inr (.inr (.inr pending)))
  have len := (exec_evDexp_declares hw inv h).len
  refine ⟨rfl, exec_blockInv hw inv h, by rw [chan]; exact on, by rw [chan]; exact empty, by rw [chan]; rfl, rfl, ?_,
    fun _ _ => rfl⟩
  rw [len, State.cap_of_cfg (exec_cfg h), chan]
  exact Channel.frameLen_congr rfl rfl

/-- Settles O59: a declared frame with nothing held is frozen, and every operation allowed keeps it so. -/
theorem frozenFrameLaw : Obligations.FrozenFrameLaw := by
  intro s u t c is hw inv empty declared quiet run
  have sameCfg := exec_cfg declared
  obtain ⟨-, le, zero⟩ := exec_evDexp_declares hw inv declared
  rw [← sameCfg] at hw zero ⊢
  rw [← State.cap_of_cfg sameCfg] at le
  have frozen := execAll_keeps (P := fun x => u.FrozenAs x c)
    (ok := fun i => rearms c i = false ∧ ∀ b, i ≠ .evByte c b)
    (fun _ _ _ ⟨noRearm, noByte⟩ frozen hx => frozen.step hw le zero noRearm noByte hx)
    quiet (exec_evDexp_frozenAs (sameCfg ▸ hw) inv empty declared) run
  exact ⟨frozen.len, frozen.ready, frozen.bytes⟩

end Sys2Proof.Machine
end

section
/-! PROOFS. What the command sequences and the polling of the time base come to (44_host_interface.md R231, R232;
40_time_base.md R154, R155). -/

namespace Sys2Proof.Machine

/-! ### RESET twice (R232) -/

/-- RESET keeps only fields that it does not write. -/
theorem Channel.afterReset_afterReset {ch : Channel} (cap : Half) (on : ch.inited = true) :
    (ch.afterReset cap).afterReset cap = ch.afterReset cap := by
  rw [Channel.afterReset_eq cap on]
  rfl

/-- Settles O28: the second RESET writes what the first has left. -/
theorem resetIsIdempotent : Obligations.ResetIsIdempotent := by
  intro s c on
  have chan : (s.setChan c ((s.chan c).afterReset (s.cap c))).done.chan c = (s.chan c).afterReset (s.cap c) :=
    State.setChan_chan_same _ _ _
  have again := exec_cmdReset_of_inited (c := c) (s := (s.setChan c ((s.chan c).afterReset (s.cap c))).done)
    (by rw [chan]; exact on)
  rw [chan, State.done_cap, State.setChan_cap, Channel.afterReset_afterReset _ on, State.setChan_done_setChan] at again
  refine ⟨_, exec_cmdReset_of_inited on, again, ?_⟩
  rw [chan, Channel.afterReset_eq _ on]
  exact ⟨rfl, rfl, rfl, rfl⟩

/-! ### PRST, then `init.channel` (R231) -/

/-- The line that writes a channel register spells that write (30_encoding.md R114). -/
theorem decode_assemble_wrCh (cfg : Config) (c : Chan) (reg : BitVec 4) (v : Word) :
    decode (assemble cfg (.wrCh c reg v)) = decodeWrCh c reg v := by
  rw [assemble, ← wrCh_word_eq_packWord]
  exact spellsWith_wrCh c reg v 0#32

theorem execAll_prst_baud_init (c : Chan) (baud : Word) (s : State) :
    execAll [.cmdPrst c, .wrChBaud c baud, .cmdInit c] s =
      .next (s.setChan c (Channel.afterInit { Channel.powerOn with baud := baud } (s.cap c))).done := by
  have off : ({ Channel.powerOn with baud := baud } : Channel).inited = false := rfl
  rw [execAll_cons_of_next (exec_cmdPrst c s), execAll_cons_of_next (exec_wrChBaud c baud _)]
  rw [State.setChan_done_setChan, State.done_chan, State.setChan_chan_same]
  rw [execAll_cons_of_next (exec_cmdInit_of_not_inited (by rw [State.done_chan, State.setChan_chan_same, off]))]
  rw [State.setChan_done_setChan, State.done_chan, State.setChan_chan_same]
  rfl

/-- Settles O29: each command writes the whole channel but BAUD, so only the last write is left. -/
theorem prstThenInitForgetsThePast : Obligations.PrstThenInitForgetsThePast := by
  intro s c baud
  refine ⟨?_, _, execAll_prst_baud_init c baud s, ?_, memSame_setChan_done c _ s⟩
  · simp [expand, decode_assemble_wrCh, decodeWrCh]
  · rw [Channel.afterInit_eq]
    exact chanBecomes_setChan_done c _ s

/-! ### Ticks of the time base -/

/-- The time base counts down from `tb` within its period: enabled, same reload value, and its count plus the number of
ticks is the old count modulo the period (40_time_base.md R140). -/
structure TimeBase.TicksFrom (tb x : TimeBase) (n : Nat) : Prop where
  en : x.en = true
  load : x.load = tb.load
  le : x.val.toNat ≤ tb.load.toNat
  count : x.val.toNat + n ≡ tb.val.toNat [MOD tb.load.toNat + 1]

theorem TimeBase.TicksFrom.refl {tb : TimeBase} (en : tb.en = true) (le : tb.val.toNat ≤ tb.load.toNat) :
    tb.TicksFrom tb 0 := ⟨en, rfl, le, Nat.ModEq.refl _⟩

/-- One tick: the count goes down by one, or from 0 to the reload value, which is one less than a period. -/
theorem TimeBase.TicksFrom.ticked {tb x : TimeBase} {n : Nat} (h : tb.TicksFrom x n) :
    tb.TicksFrom x.ticked (n + 1) := by
  obtain ⟨en, load, le, count⟩ := h
  by_cases zero : x.val = 0#32
  · have reloaded := TimeBase.ticked_val_of_eq_zero zero
    rw [load] at reloaded
    refine ⟨en, load, by rw [reloaded], ?_⟩
    rw [zero] at count
    rw [reloaded, show tb.load.toNat + (n + 1) = (tb.load.toNat + 1) + n by omega]
    exact (Nat.add_modEq_left).trans (by simpa using count)
  · have down := TimeBase.ticked_val_toNat_add_one zero
    refine ⟨en, load, by omega, ?_⟩
    rwa [show x.ticked.val.toNat + (n + 1) = x.val.toNat + n by omega]

theorem execAll_ticks {s : State} {tb : TimeBase} {k : Nat} (n : Nat) (h : tb.TicksFrom s.tb k) :
    ∃ t, execAll (List.replicate n .evTtick) s = .next t ∧ tb.TicksFrom t.tb (k + n) := by
  induction n generalizing s k with
  | zero => exact ⟨s, rfl, h⟩
  | succ n ih =>
    obtain ⟨t, run, ticks⟩ := ih (s := (s.setTb s.tb.ticked).done) h.ticked
    refine ⟨t, ?_, by rwa [show k + (n + 1) = k + 1 + n by omega]⟩
    rw [List.replicate_succ, execAll_cons_of_next (exec_evTtick_of_enabled h.en), run]

/-- The estimate of two readings less than a period apart is the ticks between them modulo the period (R154). -/
theorem est_eq_mod {m p v n : Nat} (hp : p < m) (hv : v < m) (count : v + n ≡ p [MOD m]) : est m p v = n % m := by
  have lt : est m p v < m := by
    unfold est
    split <;> omega
  have same : v + est m p v ≡ v + n [MOD m] := by
    refine Nat.ModEq.trans ?_ count.symm
    unfold est
    split
    · rw [show v + (p - v) = p by omega]
    · rw [show v + (p + m - v) = p + m by omega]
      exact Nat.add_modEq_right
  rw [← Nat.ModEq.add_left_cancel' v same, Nat.mod_eq_of_lt lt]

/-- Two readings `n` ticks apart: the estimate between them is `n` modulo the period. -/
theorem exists_ticks {s : State} (n : Nat) (en : s.tb.en = true) (le : s.tb.val.toNat ≤ s.tb.load.toNat) :
    ∃ u, execAll (List.replicate n .evTtick) s = .next u ∧ u.tb.en = true ∧ u.tb.load = s.tb.load ∧
      u.tb.val.toNat ≤ s.tb.load.toNat ∧
      est (s.tb.load.toNat + 1) s.tb.val.toNat u.tb.val.toNat = n % (s.tb.load.toNat + 1) := by
  obtain ⟨u, run, ticks⟩ := execAll_ticks n (TimeBase.TicksFrom.refl en le)
  have count := ticks.count
  rw [Nat.zero_add] at count
  exact ⟨u, run, ticks.en, ticks.load, ticks.le, est_eq_mod (Nat.lt_succ_of_le le) (Nat.lt_succ_of_le ticks.le) count⟩

/-- Settles O37: the remainder modulo the period, which is never over and exact below one period. -/
theorem elapsedTickEstimate : Obligations.ElapsedTickEstimate := by
  intro s n en le
  obtain ⟨t, run, -, -, -, estimate⟩ := exists_ticks n en le
  refine ⟨t, run, ?_⟩
  rw [estimate]
  exact ⟨Nat.mod_mod _ _, Nat.mod_le _ _, Nat.mod_eq_of_lt⟩

theorem execAll_append_of_next {xs ys : List Instr} {s u : State} (h : execAll xs s = .next u) :
    execAll (xs ++ ys) s = execAll ys u := by
  rw [execAll_append, h]

/-- Settles O38: induction over the gaps; each adds an estimate that is at most its ticks. -/
theorem pollingDelayNeverReturnsEarly : Obligations.PollingDelayNeverReturnsEarly := by
  intro s gaps en le
  induction gaps generalizing s with
  | nil => exact ⟨0, s, rfl, rfl, le_rfl, fun _ => rfl⟩
  | cons g gaps ih =>
    obtain ⟨u, run, en', load, le', gap⟩ := exists_ticks g en le
    obtain ⟨acc, t, polled, rest, atMost, exact'⟩ := ih u en' (load ▸ le')
    rw [load] at exact'
    refine ⟨g % (s.tb.load.toNat + 1) + acc, t, ?_, ?_, ?_, fun short => ?_⟩
    · simp only [pollDelay, run, polled, gap]
    · rw [List.sum_cons, List.replicate_add, execAll_append_of_next run, rest]
    · rw [List.sum_cons]
      exact Nat.add_le_add (Nat.mod_le _ _) atMost
    · obtain ⟨first, others⟩ := List.forall_mem_cons.mp short
      rw [List.sum_cons, Nat.mod_eq_of_lt first, exact' others]

end Sys2Proof.Machine
end

section
/-! PROOFS. The decoder: it inverts the encoder, answers only well-formed operations, and reads no ignored bit
(30_encoding.md R101-R116). -/

namespace Sys2Proof.Machine

/-! ### The sixteen register indices -/

theorem reg_of_lt_nine {reg : BitVec 4} (h : ¬ 9#4 ≤ reg) :
    reg = 0#4 ∨ reg = 1#4 ∨ reg = 2#4 ∨ reg = 3#4 ∨ reg = 4#4 ∨ reg = 5#4 ∨ reg = 6#4 ∨ reg = 7#4 ∨ reg = 8#4 := by
  revert reg; decide

theorem reg_of_ten_to_eleven {reg : BitVec 4} (h : (decide (10#4 ≤ reg) && decide (reg ≤ 11#4)) = true) :
    reg = 10#4 ∨ reg = 11#4 := by
  revert reg; decide

theorem reg_of_twelve_le {reg : BitVec 4} (h : decide (12#4 ≤ reg) = true) :
    reg = 12#4 ∨ reg = 13#4 ∨ reg = 14#4 ∨ reg = 15#4 := by
  revert reg; decide

theorem reg_of_six_to_seven {reg : BitVec 4} (h : (decide (6#4 ≤ reg) && decide (reg ≤ 7#4)) = true) :
    reg = 6#4 ∨ reg = 7#4 := by
  revert reg; decide

theorem reg_of_eight_le {reg : BitVec 4} (h : decide (8#4 ≤ reg) = true) : reg = 8#4 ∨ 9#4 ≤ reg := by
  revert reg; decide

/-! ### Packed words, class by class -/

section
variable (c : Chan) (ch : BitVec 2) (reg : BitVec 4) (a b data : Word)

theorem decode_wrCh : decode ⟨packWord 0x0#4 c.toBits 2#2 (regArg reg), data, b⟩ = decodeWrCh c reg data := by
  simp [decode_packWord, decodeFields, Cls.ofBits, decodeCwr, Size.ofBits]

theorem decode_rdCh : decode ⟨packWord 0x1#4 c.toBits 2#2 (regArg reg), a, b⟩ = decodeRdCh c reg := by
  simp [decode_packWord, decodeFields, Cls.ofBits, decodeCrd, Size.ofBits]

theorem decode_wrTb : decode ⟨packWord 0x2#4 ch 2#2 (regArg reg), data, b⟩ = decodeWrTb reg data := by
  simp [decode_packWord, decodeFields, Cls.ofBits, decodeTwr, Size.ofBits]

theorem decode_rdTb : decode ⟨packWord 0x3#4 ch 2#2 (regArg reg), a, b⟩ = decodeRdTb reg := by
  simp [decode_packWord, decodeFields, Cls.ofBits, decodeTrd, Size.ofBits]

end

/-! ### Decoding the encoding -/

theorem decodeWrCh_ten_to_eleven {reg : BitVec 4} (h : (decide (10#4 ≤ reg) && decide (reg ≤ 11#4)) = true) (c : Chan)
    (data : Word) : decodeWrCh c reg data = .wrChReserved10to11 c reg data := by
  obtain rfl | rfl := reg_of_ten_to_eleven h <;> rfl

theorem decodeWrCh_twelve_le {reg : BitVec 4} (h : decide (12#4 ≤ reg) = true) (c : Chan) (data : Word) :
    decodeWrCh c reg data = .wrChReserved12to15 c reg data := by
  obtain rfl | rfl | rfl | rfl := reg_of_twelve_le h <;> rfl

theorem decodeRdCh_ten_to_eleven {reg : BitVec 4} (h : (decide (10#4 ≤ reg) && decide (reg ≤ 11#4)) = true) (c : Chan) :
    decodeRdCh c reg = .rdChReserved10to11 c reg := by
  obtain rfl | rfl := reg_of_ten_to_eleven h <;> rfl

theorem decodeRdCh_twelve_le {reg : BitVec 4} (h : decide (12#4 ≤ reg) = true) (c : Chan) :
    decodeRdCh c reg = .rdChReserved12to15 c reg := by
  obtain rfl | rfl | rfl | rfl := reg_of_twelve_le h <;> rfl

theorem decodeWrTb_six_to_seven {reg : BitVec 4} (h : (decide (6#4 ≤ reg) && decide (reg ≤ 7#4)) = true) (data : Word) :
    decodeWrTb reg data = .wrTbReserved6to7 reg data := by
  obtain rfl | rfl := reg_of_six_to_seven h <;> rfl

theorem decodeRdTb_six_to_seven {reg : BitVec 4} (h : (decide (6#4 ≤ reg) && decide (reg ≤ 7#4)) = true) :
    decodeRdTb reg = .rdTbReserved6to7 reg := by
  obtain rfl | rfl := reg_of_six_to_seven h <;> rfl

theorem decodeWrTb_eight_le {reg : BitVec 4} (h : decide (8#4 ≤ reg) = true) (data : Word) :
    decodeWrTb reg data = .wrTbReserved8to15 reg data := by
  obtain rfl | h9 := reg_of_eight_le h
  · rfl
  · obtain rfl | rfl | rfl | rfl | rfl | rfl | rfl := reg_of_nine_le h9 <;> rfl

theorem decodeRdTb_eight_le {reg : BitVec 4} (h : decide (8#4 ≤ reg) = true) :
    decodeRdTb reg = .rdTbReserved8to15 reg := by
  obtain rfl | h9 := reg_of_eight_le h
  · rfl
  · obtain rfl | rfl | rfl | rfl | rfl | rfl | rfl := reg_of_nine_le h9 <;> rfl

/-- Settles O1: the fields of a packed word are read back, class by class; where a row stands for a range of registers
its operand lies in that range. -/
theorem decodeInvertsEncode : Obligations.DecodeInvertsEncode := by
  intro i wf
  cases i with
  | refuseClass6 | refuseClass7 =>
    simp [encode, decode_packWord, Cls.ofBits, decodeFields]
  | refuseCh3Class0 | refuseCh3Class1 =>
    simp [encode, decode_packWord, Cls.ofBits, decodeFields, decodeCwr, decodeCrd, Chan.ofBits]
  | refuseCh3Class8 | refuseCh3Class9 | refuseCh3ClassA | refuseCh3ClassB | refuseCh3ClassC | refuseCh3ClassD
  | refuseCh3ClassF =>
    simp [encode, decode_packWord, Cls.ofBits, decodeFields, decodeEvent, Chan.ofBits]
  | refuseSz3Class0 | refuseSz3Class1 | wrChSz0 | wrChSz1 | rdChSz0 | rdChSz1 =>
    simp [encode, decode_packWord, Cls.ofBits, decodeFields, decodeCwr, decodeCrd, Size.ofBits]
  | refuseSz3Class2 | refuseSz3Class3 | wrTbSz0 | wrTbSz1 | rdTbSz0 | rdTbSz1 =>
    simp [encode, decode_packWord, Cls.ofBits, decodeFields, decodeTwr, decodeTrd, Size.ofBits]
  | refuseSz3Class4 | refuseSz3Class5 | ldB | ldH | ldW | stB | stH | stW =>
    simp [encode, decode_packWord, Cls.ofBits, decodeFields, decodeMrd, decodeMwr, Size.ofBits]
  | cmdInit | cmdReset | cmdPrst | wrChBaud | wrChStat | wrChLen | wrChCnt | wrChTcnt | wrChCap | wrChBuf | wrChTper
  | wrChReserved9 =>
    exact decode_wrCh ..
  | cmdBad c data =>
    simp only [Instr.wellFormed, Bool.and_eq_true, decide_eq_true_eq] at wf
    obtain ⟨⟨h1, h2⟩, h3⟩ := wf
    exact (decode_wrCh ..).trans (decodeWrCh_cmd_bad c h1 h2 h3)
  | wrChReserved10to11 c reg data => exact (decode_wrCh ..).trans (decodeWrCh_ten_to_eleven wf c data)
  | wrChReserved12to15 c reg data => exact (decode_wrCh ..).trans (decodeWrCh_twelve_le wf c data)
  | rdChCmd | rdChStat | rdChLen | rdChCnt | rdChBaud | rdChTcnt | rdChCap | rdChBuf | rdChTper | rdChReserved9 =>
    exact decode_rdCh ..
  | rdChReserved10to11 c reg => exact (decode_rdCh ..).trans (decodeRdCh_ten_to_eleven wf c)
  | rdChReserved12to15 c reg => exact (decode_rdCh ..).trans (decodeRdCh_twelve_le wf c)
  | wrTbCtrl | wrTbLoad | wrTbVal | wrTbCal | wrTbQuant | wrTbReserved5 => exact decode_wrTb ..
  | wrTbReserved6to7 reg data => exact (decode_wrTb ..).trans (decodeWrTb_six_to_seven wf data)
  | wrTbReserved8to15 reg data => exact (decode_wrTb ..).trans (decodeWrTb_eight_le wf data)
  | rdTbCtrl | rdTbLoad | rdTbVal | rdTbCal | rdTbQuant | rdTbReserved5 => exact decode_rdTb ..
  | rdTbReserved6to7 reg => exact (decode_rdTb ..).trans (decodeRdTb_six_to_seven wf)
  | rdTbReserved8to15 reg => exact (decode_rdTb ..).trans (decodeRdTb_eight_le wf)
  | evByte | evIdle | evDxfer | evFtick | evDidle | evDexp | evDerr | evTtick =>
    simp [encode, decode_packWord, Cls.ofBits, decodeFields]

/-! ### What the decoder answers is well formed -/

theorem decodeWrCh_cmd_wellFormed (c : Chan) (data : Word) : (decodeWrCh c 0#4 data).wellFormed = true := by
  by_cases h1 : data = 1#32
  · subst h1; rfl
  by_cases h2 : data = 2#32
  · subst h2; rfl
  by_cases h3 : data = 3#32
  · subst h3; rfl
  rw [decodeWrCh_cmd_bad c h1 h2 h3]
  simp [Instr.wellFormed, h1, h2, h3]

theorem decodeWrCh_wellFormed (c : Chan) (reg : BitVec 4) (data : Word) :
    (decodeWrCh c reg data).wellFormed = true := by
  by_cases h9 : 9#4 ≤ reg
  · obtain rfl | rfl | rfl | rfl | rfl | rfl | rfl := reg_of_nine_le h9 <;> rfl
  · obtain rfl | rfl | rfl | rfl | rfl | rfl | rfl | rfl | rfl := reg_of_lt_nine h9
    · exact decodeWrCh_cmd_wellFormed c data
    all_goals rfl

theorem decodeRdCh_wellFormed (c : Chan) (reg : BitVec 4) : (decodeRdCh c reg).wellFormed = true := by
  by_cases h9 : 9#4 ≤ reg
  · obtain rfl | rfl | rfl | rfl | rfl | rfl | rfl := reg_of_nine_le h9 <;> rfl
  · obtain rfl | rfl | rfl | rfl | rfl | rfl | rfl | rfl | rfl := reg_of_lt_nine h9 <;> rfl

theorem decodeWrTb_wellFormed (reg : BitVec 4) (data : Word) : (decodeWrTb reg data).wellFormed = true := by
  by_cases h9 : 9#4 ≤ reg
  · obtain rfl | rfl | rfl | rfl | rfl | rfl | rfl := reg_of_nine_le h9 <;> rfl
  · obtain rfl | rfl | rfl | rfl | rfl | rfl | rfl | rfl | rfl := reg_of_lt_nine h9 <;> rfl

theorem decodeRdTb_wellFormed (reg : BitVec 4) : (decodeRdTb reg).wellFormed = true := by
  revert reg; decide

theorem decodeEvent_wellFormed (ch : BitVec 2) {refused : Instr} {event : Chan → Instr}
    (hr : refused.wellFormed = true) (he : ∀ c, (event c).wellFormed = true) :
    (decodeEvent ch refused event).wellFormed = true := by
  unfold decodeEvent
  split
  · exact hr
  · exact he _

section
variable (ch sz : BitVec 2) (arg : Byte) (a b : Word)

theorem decodeCwr_wellFormed : (decodeCwr ch sz arg a).wellFormed = true := by
  unfold decodeCwr
  split
  · rfl
  · split
    · rfl
    · rfl
    · rfl
    · exact decodeWrCh_wellFormed ..

theorem decodeCrd_wellFormed : (decodeCrd ch sz arg).wellFormed = true := by
  unfold decodeCrd
  split
  · rfl
  · split
    · rfl
    · rfl
    · rfl
    · exact decodeRdCh_wellFormed ..

theorem decodeTwr_wellFormed : (decodeTwr ch sz arg a).wellFormed = true := by
  unfold decodeTwr
  split
  · rfl
  · rfl
  · rfl
  · exact decodeWrTb_wellFormed ..

theorem decodeTrd_wellFormed : (decodeTrd ch sz arg).wellFormed = true := by
  unfold decodeTrd
  split
  · rfl
  · rfl
  · rfl
  · exact decodeRdTb_wellFormed ..

theorem decodeMrd_wellFormed : (decodeMrd ch sz arg a).wellFormed = true := by
  unfold decodeMrd
  split <;> rfl

theorem decodeMwr_wellFormed : (decodeMwr ch sz arg a b).wellFormed = true := by
  unfold decodeMwr
  split <;> rfl

end

/-- Settles O2: class by class; only the register tables and CMD limit an operand. -/
theorem decodedWordIsWellFormed : Obligations.DecodedWordIsWellFormed := by
  intro o
  unfold decode
  cases Cls.ofBits (clsOf o.word) with
  | cwr => exact decodeCwr_wellFormed ..
  | crd => exact decodeCrd_wellFormed ..
  | twr => exact decodeTwr_wellFormed ..
  | trd => exact decodeTrd_wellFormed ..
  | mrd => exact decodeMrd_wellFormed ..
  | mwr => exact decodeMwr_wellFormed ..
  | reserved6 | reserved7 | ttick => rfl
  | lbyte | lidle | dxfer | ftick | didle | dexp | derr => exact decodeEvent_wellFormed _ rfl fun _ => rfl

/-! ### The other classes -/

/-- The classes without registers (R102), the channel events last. -/
theorem cls_of_four_le {cls : BitVec 4} (h : ¬ cls < 4#4) :
    cls = 4#4 ∨ cls = 5#4 ∨ cls = 6#4 ∨ cls = 7#4 ∨ cls = 0xE#4 ∨
      cls = 8#4 ∨ cls = 9#4 ∨ cls = 0xA#4 ∨ cls = 0xB#4 ∨ cls = 0xC#4 ∨ cls = 0xD#4 ∨ cls = 0xF#4 := by
  revert cls; decide

/-- What tells the two answers of an event class apart is the same for both words when it is for each answer. -/
theorem decodeEvent_congr {α : Type} {f : Instr → α} (ch : BitVec 2) {r r' : Instr} {e e' : Chan → Instr}
    (refused : f r = f r') (event : ∀ c, f (e c) = f (e' c)) : f (decodeEvent ch r e) = f (decodeEvent ch r' e') := by
  unfold decodeEvent
  split
  · exact refused
  · exact event _

@[simp] theorem regOf_append (hi reg : BitVec 4) : regOf (hi ++ reg) = reg :=
  BitVec.extractLsb'_append_eq_right

end Sys2Proof.Machine
end

section
/-! PROOFS. The decoder and the opcode table (30_encoding.md R106-R108): a row is compared with a word field by field,
and the rows of one class are finite data. -/

namespace Sys2Proof

/-! ### A row, field by field -/

/-- Does the row cover these fields of a word of its class? -/
def Row.covers (r : Row) (ch sz : BitVec 2) (reg : BitVec 4) : Bool :=
  (ch &&& chOf r.mask) == chOf r.pattern && (sz &&& szOf r.mask) == szOf r.pattern &&
    (reg &&& regOf (argOf r.mask)) == regOf (argOf r.pattern)

/-- The rows of one class, in priority order. -/
def classRows (cls : BitVec 4) : List Row := opcodeTable.filter (fun r => clsOf r.pattern == cls)

/-- Every row fixes the whole class and looks at no ignored bit of ARG. -/
theorem opcodeTable_fields : ∀ r ∈ opcodeTable,
    r.mask = packWord 0xF#4 (chOf r.mask) (szOf r.mask) (regArg (regOf (argOf r.mask))) ∧
    r.pattern = packWord (clsOf r.pattern) (chOf r.pattern) (szOf r.pattern) (regArg (regOf (argOf r.pattern))) := by
  decide +kernel

theorem packWord_and (cls cls' : BitVec 4) (ch ch' sz sz' : BitVec 2) (arg arg' : Byte) :
    packWord cls ch sz arg &&& packWord cls' ch' sz' arg' =
      packWord (cls &&& cls') (ch &&& ch') (sz &&& sz') (arg &&& arg') := by
  apply BitVec.eq_of_getLsbD_eq
  intro k _
  simp only [BitVec.getLsbD_and, packWord_getLsbD]
  split_ifs <;> rfl

theorem packWord_inj {cls cls' : BitVec 4} {ch ch' sz sz' : BitVec 2} {arg arg' : Byte} :
    packWord cls ch sz arg = packWord cls' ch' sz' arg' ↔ cls = cls' ∧ ch = ch' ∧ sz = sz' ∧ arg = arg' := by
  refine ⟨fun h => ⟨?_, ?_, ?_, ?_⟩, by rintro ⟨rfl, rfl, rfl, rfl⟩; rfl⟩
  · simpa using congrArg clsOf h
  · simpa using congrArg chOf h
  · simpa using congrArg szOf h
  · simpa using congrArg argOf h

theorem and_regArg (arg : Byte) (reg : BitVec 4) : arg &&& regArg reg = regArg (regOf arg &&& reg) := by
  apply BitVec.eq_of_getLsbD_eq
  intro k _
  simp only [regArg, regOf, BitVec.getLsbD_and, BitVec.getLsbD_append, BitVec.getLsbD_extractLsb']
  by_cases low : k < 4 <;> simp [low]

theorem regArg_inj {reg reg' : BitVec 4} : regArg reg = regArg reg' ↔ reg = reg' :=
  ⟨fun h => by simpa using congrArg regOf h, congrArg regArg⟩

/-- A row matches a word exactly when it is of the word's class, covers its fields, and its operand condition holds. -/
theorem Row.hits_packWord {r : Row} (mem : r ∈ opcodeTable) (cls : BitVec 4) (ch sz : BitVec 2) (arg : Byte)
    (a b : Word) :
    r.hits ⟨packWord cls ch sz arg, a, b⟩ =
      (clsOf r.pattern == cls && (r.covers ch sz (regOf arg) && r.operand.holds a)) := by
  obtain ⟨mask, pattern⟩ := opcodeTable_fields r mem
  have full : cls &&& 0xF#4 = cls := BitVec.and_allOnes
  have fields : ((packWord cls ch sz arg &&& r.mask) = r.pattern) ↔ clsOf r.pattern = cls ∧
      (ch &&& chOf r.mask) = chOf r.pattern ∧ (sz &&& szOf r.mask) = szOf r.pattern ∧
      (regOf arg &&& regOf (argOf r.mask)) = regOf (argOf r.pattern) := by
    conv_lhs => rw [mask, pattern]
    rw [packWord_and, packWord_inj, full, and_regArg, regArg_inj, eq_comm (a := cls)]
  rw [Bool.eq_iff_iff]
  simp only [Row.hits, Row.covers, Bool.and_eq_true, beq_iff_eq, fields]
  tauto

/-! ### The operand condition -/

/-- What the operand conditions tell apart: the three commands, and any other operand. -/
def commandOf (a : Word) : Word := if a = 1#32 ∨ a = 2#32 ∨ a = 3#32 then a else 0#32

theorem commandOf_cases (a : Word) :
    (a = 1#32 ∨ a = 2#32 ∨ a = 3#32) ∧ commandOf a = a ∨ (a ≠ 1#32 ∧ a ≠ 2#32 ∧ a ≠ 3#32) ∧ commandOf a = 0#32 := by
  by_cases command : a = 1#32 ∨ a = 2#32 ∨ a = 3#32
  · exact .inl ⟨command, if_pos command⟩
  · exact .inr ⟨by tauto, if_neg command⟩

/-- Two bits hold the four. -/
theorem exists_commandOf (a : Word) : ∃ k : BitVec 2, commandOf a = k.setWidth 32 := by
  obtain ⟨rfl | rfl | rfl, e⟩ | ⟨-, e⟩ := commandOf_cases a
  · exact ⟨1#2, e⟩
  · exact ⟨2#2, e⟩
  · exact ⟨3#2, e⟩
  · exact ⟨0#2, e⟩

theorem opcodeTable_operand : ∀ r ∈ opcodeTable,
    r.operand ∈ [.any, .equals 1#32, .equals 2#32, .equals 3#32, .noCommand] := by
  decide +kernel

theorem holds_commandOf {r : Row} (mem : r ∈ opcodeTable) (a : Word) :
    r.operand.holds a = r.operand.holds (commandOf a) := by
  obtain ⟨-, e⟩ | ⟨⟨h1, h2, h3⟩, e⟩ := commandOf_cases a
  · rw [e]
  · rw [e]
    have cond := opcodeTable_operand r mem
    generalize r.operand = k at cond
    fin_cases cond <;> simp [OperandCond.holds, h1, h2, h3]

/-! ### The first matching row (R107) -/

theorem find_hits (cls : BitVec 4) (ch sz : BitVec 2) (arg : Byte) (a b : Word) :
    opcodeTable.find? (fun r => r.hits ⟨packWord cls ch sz arg, a, b⟩) =
      (classRows cls).find? (fun r => r.covers ch sz (regOf arg) && r.operand.holds (commandOf a)) := by
  rw [classRows, List.find?_filter]
  refine List.find?_congr fun r mem => ?_
  rw [Row.hits_packWord mem, holds_commandOf mem, Bool.eq_iff_iff]
  simp

/-- The register index, where the class has registers. -/
def regField (cls : BitVec 4) (arg : Byte) : BitVec 4 := if cls < 4#4 then regOf arg else 0#4

/-- The command, where the class has the CMD register. -/
def commandField (cls : BitVec 4) (a : Word) : Word := if cls = 0#4 then commandOf a else 0#32

/-- The mnemonic of the first row of the class that covers the fields. -/
def firstMnemonic (cls : BitVec 4) (ch sz : BitVec 2) (reg : BitVec 4) (a : Word) : Option String :=
  ((classRows cls).find? (fun r => r.covers ch sz reg && r.operand.holds a)).map Row.mnemonic

theorem classRows_reg : ∀ cls : BitVec 4, ¬ cls < 4#4 → ∀ r ∈ classRows cls,
    regOf (argOf r.mask) = 0#4 ∧ regOf (argOf r.pattern) = 0#4 := by
  decide +kernel

theorem classRows_operand : ∀ cls : BitVec 4, cls ≠ 0#4 → ∀ r ∈ classRows cls, r.operand = .any := by
  decide +kernel

theorem find_mnemonic (cls : BitVec 4) (ch sz : BitVec 2) (arg : Byte) (a b : Word) :
    (opcodeTable.find? (fun r => r.hits ⟨packWord cls ch sz arg, a, b⟩)).map (fun r => r.mnemonic) =
      firstMnemonic cls ch sz (regField cls arg) (commandField cls a) := by
  rw [find_hits, firstMnemonic]
  refine congrArg (Option.map Row.mnemonic) (List.find?_congr fun r mem => ?_)
  have reg : r.covers ch sz (regOf arg) = r.covers ch sz (regField cls arg) := by
    rw [regField]
    split
    · rfl
    · rename_i noReg
      obtain ⟨mask, pattern⟩ := classRows_reg cls noReg r mem
      simp [Row.covers, mask, pattern]
  have operand : r.operand.holds (commandOf a) = r.operand.holds (commandField cls a) := by
    rw [commandField]
    split
    · rfl
    · rename_i noCmd
      rw [classRows_operand cls noCmd r mem]
      rfl
  rw [reg, operand]

end Sys2Proof

namespace Sys2Proof.Machine

/-! ### The decoder's mnemonic -/

theorem decodeWrCh_mnemonic (c : Chan) (reg : BitVec 4) (a : Word) :
    (decodeWrCh c reg a).mnemonic = (decodeWrCh c reg (commandOf a)).mnemonic := by
  obtain ⟨-, e⟩ | ⟨⟨h1, h2, h3⟩, e⟩ := commandOf_cases a
  · rw [e]
  · rw [e]
    by_cases h9 : 9#4 ≤ reg
    · obtain rfl | rfl | rfl | rfl | rfl | rfl | rfl := reg_of_nine_le h9 <;> rfl
    · obtain rfl | rfl | rfl | rfl | rfl | rfl | rfl | rfl | rfl := reg_of_lt_nine h9
      · rw [decodeWrCh_cmd_bad c h1 h2 h3]
        rfl
      all_goals rfl

theorem decodeWrTb_mnemonic (reg : BitVec 4) (a b : Word) :
    (decodeWrTb reg a).mnemonic = (decodeWrTb reg b).mnemonic := by
  by_cases h9 : 9#4 ≤ reg
  · obtain rfl | rfl | rfl | rfl | rfl | rfl | rfl := reg_of_nine_le h9 <;> rfl
  · obtain rfl | rfl | rfl | rfl | rfl | rfl | rfl | rfl | rfl := reg_of_lt_nine h9 <;> rfl

/-- The mnemonic depends on the register index and the command, each where the class has one. -/
theorem decodeFields_mnemonic (cls : BitVec 4) (ch sz : BitVec 2) (arg : Byte) (a b : Word) :
    (decodeFields (Cls.ofBits cls) ch sz arg a b).mnemonic =
      (decodeFields (Cls.ofBits cls) ch sz (regArg (regField cls arg)) (commandField cls a) 0#32).mnemonic := by
  by_cases registers : cls < 4#4
  · rw [regField, if_pos registers]
    obtain rfl | rfl | rfl | rfl := cls_of_lt_four registers <;>
      simp only [Cls.ofBits, decodeFields]
    · rw [commandField, if_pos rfl, decodeCwr, decodeCwr, regOf_regArg]
      split
      · rfl
      · split
        · rfl
        · rfl
        · rfl
        · exact decodeWrCh_mnemonic ..
    · rw [decodeCrd, decodeCrd, regOf_regArg]
      split
      · rfl
      · split <;> rfl
    · rw [decodeTwr, decodeTwr, regOf_regArg]
      split
      · rfl
      · rfl
      · rfl
      · exact decodeWrTb_mnemonic ..
    · rw [decodeTrd, decodeTrd, regOf_regArg]
      split <;> rfl
  · obtain rfl | rfl | rfl | rfl | rfl | rfl | rfl | rfl | rfl | rfl | rfl | rfl := cls_of_four_le registers
    · simp only [Cls.ofBits, decodeFields, decodeMrd]
      split <;> rfl
    · simp only [Cls.ofBits, decodeFields, decodeMwr]
      split <;> rfl
    · rfl
    · rfl
    · rfl
    all_goals exact decodeEvent_congr (f := Instr.mnemonic) ch rfl fun _ => rfl

/-! ### Every class of the table

A class has at most 19 rows, and its words differ in what a row can look at only by CH, SZ, a register index and a
command; so that its first covering row is the decoder's is a check of finite data, class by class. -/

theorem firstMnemonic_class_zero : ∀ ch sz k : BitVec 2, ∀ reg : BitVec 4,
    firstMnemonic 0#4 ch sz reg (k.setWidth 32) =
      some (decodeFields .cwr ch sz (regArg reg) (k.setWidth 32) 0#32).mnemonic := by
  decide +kernel

theorem firstMnemonic_of_lt_four : ∀ cls : BitVec 4, cls < 4#4 → cls ≠ 0#4 → ∀ ch sz : BitVec 2, ∀ reg : BitVec 4,
    firstMnemonic cls ch sz reg 0#32 = some (decodeFields (Cls.ofBits cls) ch sz (regArg reg) 0#32 0#32).mnemonic := by
  decide +kernel

theorem firstMnemonic_of_four_le : ∀ cls : BitVec 4, ¬ cls < 4#4 → ∀ ch sz : BitVec 2,
    firstMnemonic cls ch sz 0#4 0#32 = some (decodeFields (Cls.ofBits cls) ch sz (regArg 0#4) 0#32 0#32).mnemonic := by
  decide +kernel

theorem firstMnemonic_eq (cls : BitVec 4) (ch sz : BitVec 2) (arg : Byte) (a : Word) :
    firstMnemonic cls ch sz (regField cls arg) (commandField cls a) =
      some (decodeFields (Cls.ofBits cls) ch sz (regArg (regField cls arg)) (commandField cls a) 0#32).mnemonic := by
  by_cases cmd : cls = 0#4
  · subst cmd
    obtain ⟨k, command⟩ := exists_commandOf a
    rw [commandField, if_pos rfl, command]
    exact firstMnemonic_class_zero ch sz k _
  rw [commandField, if_neg cmd]
  by_cases registers : cls < 4#4
  · exact firstMnemonic_of_lt_four cls registers cmd ch sz _
  · rw [regField, if_neg registers]
    exact firstMnemonic_of_four_le cls registers ch sz

/-! ### The rows of priority 3 (R107) -/

/-- Do the two conditions exclude each other? -/
def condsApart (k l : OperandCond) : Bool :=
  match k, l with
  | .equals u, .equals v => u != v
  | .equals v, .noCommand => !OperandCond.noCommand.holds v
  | .noCommand, .equals v => !OperandCond.noCommand.holds v
  | _, _ => false

theorem not_holds_of_condsApart {k l : OperandCond} (h : condsApart k l = true) (a : Word) :
    ¬ (k.holds a = true ∧ l.holds a = true) := by
  rintro ⟨hk, hl⟩
  cases k with
  | any => cases l <;> cases h
  | equals u =>
    obtain rfl : a = u := by simpa [OperandCond.holds] using hk
    cases l with
    | any => cases h
    | equals v =>
      obtain rfl : a = v := by simpa [OperandCond.holds] using hl
      simp [condsApart] at h
    | noCommand => simp [condsApart, hl] at h
  | noCommand =>
    cases l with
    | any => cases h
    | equals v =>
      obtain rfl : a = v := by simpa [OperandCond.holds] using hl
      simp [condsApart, hk] at h
    | noCommand => cases h

/-- Do the rows exclude each other, by a bit that both fix or by their operand conditions? -/
def rowsApart (r q : Row) : Bool :=
  r.pattern &&& q.mask != q.pattern &&& r.mask || condsApart r.operand q.operand

/-- Two rows that both match agree on the bits that both fix. -/
theorem not_hits_of_rowsApart {r q : Row} (h : rowsApart r q = true) (o : OpWord) :
    ¬ (r.hits o = true ∧ q.hits o = true) := by
  simp only [Row.hits, Bool.and_eq_true, beq_iff_eq]
  rintro ⟨⟨hr, kr⟩, hq, kq⟩
  have agree : r.pattern &&& q.mask = q.pattern &&& r.mask := by
    rw [← hr, ← hq, BitVec.and_assoc, BitVec.and_assoc, BitVec.and_comm r.mask]
  rw [rowsApart, agree, bne_self_eq_false, Bool.false_or] at h
  exact not_holds_of_condsApart h o.operand1 ⟨kr, kq⟩

theorem pairwise_rowsApart : (opcodeTable.drop 17).Pairwise (fun r q => rowsApart r q = true) := by
  decide +kernel

/-- Settles O3: class by class the first row that covers the fields has the decoder's mnemonic; the rows of priority 3
exclude each other pairwise. -/
theorem firstMatchingRowDecides : Obligations.FirstMatchingRowDecides := by
  refine ⟨fun o => ?_, fun o r mem r' mem' hr hr' => ?_⟩
  · obtain ⟨w, a, b⟩ := o
    rw [← packWord_fields w, find_mnemonic, firstMnemonic_eq, decode_packWord, ← decodeFields_mnemonic]
  · have unique : (opcodeTable.drop 17).Pairwise (fun r q => r.hits o = true → q.hits o = true → r = q) :=
      pairwise_rowsApart.imp fun apart hr hq => absurd ⟨hr, hq⟩ (not_hits_of_rowsApart apart o)
    exact unique.forall_of_forall_of_flip (fun _ _ _ _ => rfl)
      (unique.imp fun same hq hr => (same hr hq).symm) mem mem' hr hr'

end Sys2Proof.Machine
end

section
/-! PROOFS. The meaning of a word: its ignored bits, the examples of the spec, and how a step and a bus access come to
it (30_encoding.md R105, R109, R116; 10_state.md R23). -/

namespace Sys2Proof.Machine

/-! ### Ignored bits (R109 (c)) -/

theorem cls_of_eight_le {cls : BitVec 4} (h : 8#4 ≤ cls) : cls = 8#4 ∨ 9#4 ≤ cls := by
  revert cls; decide

/-- The events that carry no byte (R102), the tick of the time base first. -/
theorem cls_of_nine_le {cls : BitVec 4} (h : 9#4 ≤ cls) :
    cls = 0xE#4 ∨ cls = 9#4 ∨ cls = 0xA#4 ∨ cls = 0xB#4 ∨ cls = 0xC#4 ∨ cls = 0xD#4 ∨ cls = 0xF#4 := by
  revert cls; decide

/-- The same word with other values in its fields does the same in state `s`. -/
def SameMeaning (s : State) (i j : Instr) : Prop := exec i s = exec j s

section
variable (s : State) (ch ch' sz sz' : BitVec 2) (arg arg' : Byte) (a b : Word)

theorem sameMeaning_cwr (reg : regOf arg = regOf arg') :
    SameMeaning s (decodeCwr ch sz arg a) (decodeCwr ch sz arg' a) := by
  unfold decodeCwr
  rw [reg]
  split
  · rfl
  · split <;> rfl

theorem sameMeaning_crd (reg : regOf arg = regOf arg') :
    SameMeaning s (decodeCrd ch sz arg) (decodeCrd ch sz arg') := by
  unfold decodeCrd
  rw [reg]
  split
  · rfl
  · split <;> rfl

/-- Class 2 ignores CH as well. -/
theorem sameMeaning_twr (reg : regOf arg = regOf arg') :
    SameMeaning s (decodeTwr ch sz arg a) (decodeTwr ch' sz arg' a) := by
  unfold decodeTwr
  rw [reg]
  split <;> rfl

/-- Class 3 ignores CH as well. -/
theorem sameMeaning_trd (reg : regOf arg = regOf arg') :
    SameMeaning s (decodeTrd ch sz arg) (decodeTrd ch' sz arg') := by
  unfold decodeTrd
  rw [reg]
  split <;> rfl

theorem sameMeaning_mrd : SameMeaning s (decodeMrd ch sz arg a) (decodeMrd ch' sz arg' a) := by
  unfold decodeMrd
  split <;> rfl

theorem sameMeaning_mwr : SameMeaning s (decodeMwr ch sz arg a b) (decodeMwr ch' sz arg' a b) := by
  unfold decodeMwr
  split <;> rfl

/-- An event class ignores the fields that its refused word keeps. -/
theorem sameMeaning_event {r r' : Instr} {e : Chan → Instr} (refused : SameMeaning s r r') :
    SameMeaning s (decodeEvent ch r e) (decodeEvent ch r' e) :=
  decodeEvent_congr (f := fun i => exec i s) ch refused fun _ => rfl

end

/-- Settles O5: per class, the fields a group lets vary are read by no branch but a refused word's. -/
theorem ignoredBitsKeepTheMeaning : Obligations.IgnoredBitsKeepTheMeaning := by
  intro s a b cls ch ch' sz sz' arg arg' hi hi' reg
  simp only [decode_packWord]
  refine ⟨fun registers => ?_, fun noArg => ?_, fun noCh => ?_, fun event => ?_⟩
  · have sameReg : regOf (hi ++ reg) = regOf (hi' ++ reg) := by simp
    obtain rfl | rfl | rfl | rfl := cls_of_lt_four registers
    · exact sameMeaning_cwr s ch sz _ _ a sameReg
    · exact sameMeaning_crd s ch sz _ _ sameReg
    · exact sameMeaning_twr s ch ch sz _ _ a sameReg
    · exact sameMeaning_trd s ch ch sz _ _ sameReg
  · obtain rfl | rfl | h9 := noArg
    · exact sameMeaning_mrd s ch ch sz arg arg' a
    · exact sameMeaning_mwr s ch ch sz arg arg' a b
    · obtain rfl | rfl | rfl | rfl | rfl | rfl | rfl := cls_of_nine_le h9
      · rfl
      all_goals exact sameMeaning_event s ch rfl
  · obtain rfl | rfl | rfl | rfl | rfl := noCh
    · exact sameMeaning_twr s ch ch' sz arg arg a rfl
    · exact sameMeaning_trd s ch ch' sz arg arg rfl
    · exact sameMeaning_mrd s ch ch' sz arg arg a
    · exact sameMeaning_mwr s ch ch' sz arg arg a b
    · rfl
  · obtain rfl | h9 := cls_of_eight_le event
    · exact sameMeaning_event s ch rfl
    · obtain rfl | rfl | rfl | rfl | rfl | rfl | rfl := cls_of_nine_le h9
      · rfl
      all_goals exact sameMeaning_event s ch rfl

/-! ### The examples (R116) -/

/-- Settles O4: each line's word and its meaning, read off the assembler and the decoder. -/
theorem exampleEncodingsHold : Obligations.ExampleEncodingsHold := by
  refine ⟨fun cfg => ⟨rfl, rfl⟩, fun cfg => ⟨rfl, rfl⟩, fun cfg => ⟨rfl, rfl⟩, fun cfg => ⟨rfl, rfl⟩,
    fun cfg => ⟨rfl, rfl⟩, fun cfg inside => ?_, fun a => decode_packWord 4#4 0#2 2#2 0#8 a 0#32,
    fun s => exec_onlyRefuses rfl, fun s => exec_onlyRefuses rfl, fun s data => exec_onlyFaults (exec_decode_narrow (cls := 0#4) (ch := 0#2)
      (sz := 1#2) 0x04#8 data 0#32 s (by decide) (by decide) (by decide))⟩
  rw [assemble, chanOfAddr, inside]
  rfl

/-! ### The step (10_state.md R23) -/

theorem step_of_word {s : State} {o : OpWord} {rest : List Request} (hs : s.sched = .word o :: rest) :
    step s = exec (decode o) (s.withSched rest) := by
  simp [step, hs, translateRequest]

/-- Settles O6: the request is an operation word; taking the fetched word off again gives back the state. -/
theorem stepRunsTheDecodedWord : Obligations.StepRunsTheDecodedWord :=
  ⟨fun _ _ _ hs => step_of_word hs, fun _ _ _ => step_of_word rfl⟩

/-! ### A bus access (R105) -/

theorem step_of_bus_op {s : State} {a : BusAccess} {rest : List Request} {o : OpWord} (hs : s.sched = .bus a :: rest)
    (h : busToWord s.cfg a = .op o) : step s = exec (decode o) (s.withSched rest) := by
  simp [step, hs, translateRequest, h]

theorem step_of_bus_refused {s : State} {a : BusAccess} {rest : List Request} {why : RefusalReason}
    (hs : s.sched = .bus a :: rest) (h : busToWord s.cfg a = .refused why) :
    step s = .next (refuse why (s.withSched rest)) := by
  simp [step, hs, translateRequest, h]

section
variable {cfg : Config} {a : BusAccess}

theorem busToWord_of_bad_size (h : ¬ (a.width = 1 ∨ a.width = 2 ∨ a.width = 4)) :
    busToWord cfg a = .refused .badSize := by
  rw [busToWord, if_pos (by tauto)]

theorem busToWord_of_buffer (legal : a.width = 1 ∨ a.width = 2 ∨ a.width = 4)
    (outside : ¬ (cfg.winLo ≤ a.addr.toNat ∧ a.addr.toNat ≤ cfg.winHi)) {c : Chan}
    (found : findBuf cfg a.addr a.width = some c) : busToWord cfg a = .op (bufferWord c a) := by
  rw [busToWord, if_neg (by tauto), if_neg (mt inWindow_iff.mp outside), found]

theorem busToWord_of_nowhere (legal : a.width = 1 ∨ a.width = 2 ∨ a.width = 4)
    (outside : ¬ (cfg.winLo ≤ a.addr.toNat ∧ a.addr.toNat ≤ cfg.winHi)) (none : findBuf cfg a.addr a.width = none) :
    busToWord cfg a = .refused .outside := by
  rw [busToWord, if_neg (by tauto), if_neg (mt inWindow_iff.mp outside), none]

/-- An access inside a buffer finds that buffer: the buffers share no byte. -/
theorem findBuf_eq_some (hw : cfg.wf = true) (pos : 1 ≤ a.width) {c : Chan} (lo : cfg.bufLo c ≤ a.addr.toNat)
    (hi : a.addr.toNat + a.width ≤ cfg.bufHi c + 1) : findBuf cfg a.addr a.width = some c := by
  obtain ⟨d, found⟩ := Option.ne_none_iff_exists'.mp (findBuf_ne_none lo hi)
  obtain ⟨lo', hi'⟩ := findBuf_some found
  rw [found]
  by_contra ne
  have apart := Config.wf_apart hw (c := c) (d := d) (by rintro rfl; exact ne rfl)
  omega

theorem sizeCode_eq {n : Nat} (legal : n = 1 ∨ n = 2 ∨ n = 4) : sizeCode n = BitVec.ofNat 2 (n / 2) := by
  obtain rfl | rfl | rfl := legal <;> rfl

/-- What a write carries; a read carries nothing. -/
def BusAccess.payload (a : BusAccess) : Word := if a.dir = .write then a.data else 0#32

theorem bufferWord_eq (legal : a.width = 1 ∨ a.width = 2 ∨ a.width = 4) (c : Chan) :
    bufferWord c a = ⟨packWord (if a.dir = .write then 5#4 else 4#4) c.toBits (BitVec.ofNat 2 (a.width / 2)) 0#8,
      a.addr, BusAccess.payload a⟩ := by
  rw [bufferWord, sizeCode_eq legal, BusAccess.payload]
  cases a.dir <;> rfl

/-- Where an address lies in the register window, as a number. -/
theorem windowOffset_toNat (lo : cfg.winLo ≤ a.addr.toNat) :
    (a.addr - cfg.blkBase).toNat = a.addr.toNat - cfg.winLo :=
  BitVec.toNat_sub_of_le lo

/-- The block of an offset in the window (R104). -/
theorem window_block {x : Word} (lt : x.toNat < 256) :
    BitVec.extractLsb' 6 2 (x.setWidth 8) = BitVec.ofNat 2 (x.toNat / 64) := by
  apply BitVec.eq_of_toNat_eq
  rw [BitVec.extractLsb'_toNat, BitVec.toNat_setWidth, BitVec.toNat_ofNat, Nat.mod_eq_of_lt lt,
    Nat.shiftRight_eq_div_pow]

/-- The register index of an offset in the window, as ARG (R104). -/
theorem window_arg {x : Word} (lt : x.toNat < 256) :
    regArg (BitVec.extractLsb' 2 4 (x.setWidth 8)) = BitVec.ofNat 8 (x.toNat / 4 % 16) := by
  apply BitVec.eq_of_toNat_eq
  have index : (BitVec.extractLsb' 2 4 (x.setWidth 8)).toNat = x.toNat / 4 % 16 := by
    rw [BitVec.extractLsb'_toNat, BitVec.toNat_setWidth, Nat.mod_eq_of_lt lt, Nat.shiftRight_eq_div_pow]
  have fits : (BitVec.ofNat 8 (x.toNat / 4 % 16)).toNat = x.toNat / 4 % 16 := Nat.mod_eq_of_lt (by omega)
  rw [regArg, BitVec.toNat_append, index, fits]
  simp

/-- An aligned access to a channel's block of the window is that channel's register access. -/
theorem windowWord_of_channel (lo : cfg.winLo ≤ a.addr.toNat) (blk : (a.addr.toNat - cfg.winLo) / 64 < 3) :
    windowWord cfg a = ⟨packWord (if a.dir = .write then 0#4 else 1#4)
      (BitVec.ofNat 2 ((a.addr.toNat - cfg.winLo) / 64)) 2#2 (BitVec.ofNat 8 ((a.addr.toNat - cfg.winLo) / 4 % 16)),
      BusAccess.payload a, 0#32⟩ := by
  have offset := windowOffset_toNat lo
  have lt : (a.addr - cfg.blkBase).toNat < 256 := by omega
  have block := window_block lt
  have arg := window_arg lt
  rw [offset] at block arg
  have notTb : BitVec.ofNat 2 ((a.addr.toNat - cfg.winLo) / 64) ≠ 3#2 := by bv_omega
  rw [windowWord, BusAccess.payload]
  simp only [block, arg, if_neg notTb]
  cases a.dir <;> rfl

/-- An aligned access to the last block of the window is a time-base register access. -/
theorem windowWord_of_timeBase (lo : cfg.winLo ≤ a.addr.toNat) (blk : (a.addr.toNat - cfg.winLo) / 64 = 3) :
    windowWord cfg a = ⟨packWord (if a.dir = .write then 2#4 else 3#4) 0#2 2#2
      (BitVec.ofNat 8 ((a.addr.toNat - cfg.winLo) / 4 % 16)), BusAccess.payload a, 0#32⟩ := by
  have offset := windowOffset_toNat lo
  have lt : (a.addr - cfg.blkBase).toNat < 256 := by omega
  have block := window_block lt
  have arg := window_arg lt
  rw [offset] at block arg
  rw [blk] at block
  rw [windowWord, BusAccess.payload]
  simp only [block, arg]
  cases a.dir <;> rfl

end

/-- Settles O7: the branches of `busToWord` in turn, the offset in the window read as a number. -/
theorem busAccessBecomesItsWord : Obligations.BusAccessBecomesItsWord := by
  intro s a rest hw hs
  have offset := windowOffset_toNat (cfg := s.cfg) (a := a)
  refine ⟨fun bad => ?_, fun legal inWin misfit => ?_, fun width inWin aligned blk => ?_,
    fun width inWin aligned blk => ?_, fun legal outside c lo hi => ?_, fun legal outside nowhere => ?_⟩
  · exact step_of_bus_refused hs (busToWord_of_bad_size bad)
  · rw [← offset inWin.1] at misfit
    exact step_of_bus_fault hs (busToWord_of_misfit legal (inWindow_iff.mpr inWin) misfit)
  · rw [← offset inWin.1] at aligned
    have word := busToWord_of_fit width (inWindow_iff.mpr inWin) aligned
    rw [windowWord_of_channel inWin.1 blk] at word
    exact step_of_bus_op hs word
  · rw [← offset inWin.1] at aligned
    have word := busToWord_of_fit width (inWindow_iff.mpr inWin) aligned
    rw [windowWord_of_timeBase inWin.1 blk] at word
    exact step_of_bus_op hs word
  · have word := busToWord_of_buffer legal outside (findBuf_eq_some hw (by omega) lo hi)
    rw [bufferWord_eq legal] at word
    exact step_of_bus_op hs word
  · exact step_of_bus_refused hs (busToWord_of_nowhere legal outside (findBuf_eq_none_iff.mpr nowhere))

end Sys2Proof.Machine
end

section
/-! PROOFS. What an operation reads: never the report of the one before it (20_memory.md R78), and of the channels only
the one it names (10_state.md R46). -/

namespace Sys2Proof.Machine

/-! ### Reads (R78) -/

theorem lineByte_returns_done (c : Chan) (b : Byte) (s : State) (v : Word) :
    (lineByte c b (s.returns v)).done = (lineByte c b s).done := by
  unfold lineByte
  rw [State.returns_chan]
  split
  · split <;> rfl
  · rfl

theorem exec_evIdle_returns (c : Chan) (s : State) (v : Word) :
    exec (.evIdle c) (s.returns v) = exec (.evIdle c) s := by
  rw [exec_evIdle, exec_evIdle, State.returns_chan, State.returns_cfg]
  split <;> rfl

/-- No operation reads the value that the one before it returned. -/
theorem exec_returns (i : Instr) (s : State) (v : Word) : exec i (s.returns v) = exec i s := by
  cases i with
  | evByte c b => exact congrArg Host.Outcome.next (lineByte_returns_done c b s v)
  | evIdle c => exact exec_evIdle_returns c s v
  | _ => rfl

/-- Settles O16: of the effects only a read reports a value, and it changes the report alone. -/
theorem readsHaveNoSideEffect : Obligations.ReadsHaveNoSideEffect := by
  intro i s t v h reported
  have same : t = s.returns v := by
    cases exec_effect h with
    | value => cases reported; rfl
    | _ => cases reported
  subst same
  exact ⟨onlyReturns_returns v s, (exec_returns i s v).trans h⟩

/-! ### What an operation sees of one channel (R46) -/

/-- The two states look alike from channel `c`: same configuration, channel, draws and bytes of its buffer. -/
structure SameView (c : Chan) (s s' : State) : Prop where
  cfg : s'.cfg = s.cfg
  chan : s'.chan c = s.chan c
  draws : s'.draws.get c = s.draws.get c
  bytes : ∀ a, s.cfg.bufLo c ≤ a → a ≤ s.cfg.bufHi c → s'.memByte a = s.memByte a

/-- Where the first outcome is a next state so is the second, and the two look alike and report the same. -/
def SameOutcome (c : Chan) (r r' : Result) : Prop :=
  ∀ t, r = .next t → ∃ t', r' = .next t' ∧ SameView c t t' ∧ t'.report = t.report

section
variable {c : Chan} {s s' : State}

theorem sameOutcome_next (view : SameView c s s') (report : s'.report = s.report) :
    SameOutcome c (.next s) (.next s') := by
  rintro t ⟨⟩
  exact ⟨s', rfl, view, report⟩

theorem sameOutcome_fault (r : Fault) (r' : Result) : SameOutcome c (.fault r) r' := by
  intro t h
  cases h

theorem sameOutcome_whenEnabled (enabled : Bool) (view : SameView c s s') (report : s'.report = s.report) :
    SameOutcome c (whenEnabled enabled s) (whenEnabled enabled s') := by
  cases enabled with
  | false => exact sameOutcome_fault _ _
  | true => exact sameOutcome_next view report

theorem SameView.faults (view : SameView c s s') (code : FaultCode) :
    SameOutcome c (.next (raiseFault code s)) (.next (raiseFault code s')) :=
  sameOutcome_next ⟨view.cfg, view.chan, view.draws, view.bytes⟩ rfl

theorem SameView.reads (view : SameView c s s') {v v' : Word} (value : v' = v) :
    SameOutcome c (.next (s.returns v)) (.next (s'.returns v')) :=
  sameOutcome_next ⟨view.cfg, view.chan, view.draws, view.bytes⟩
    (by rw [State.returns_report, State.returns_report, value])

theorem SameView.done (view : SameView c s s') : SameView c s.done s'.done :=
  ⟨view.cfg, view.chan, view.draws, view.bytes⟩

theorem SameView.setChan (view : SameView c s s') (x : Channel) : SameView c (s.setChan c x) (s'.setChan c x) :=
  ⟨view.cfg, by rw [State.setChan_chan_same, State.setChan_chan_same], view.draws, view.bytes⟩

theorem SameView.countDraw (view : SameView c s s') : SameView c (s.countDraw c) (s'.countDraw c) :=
  ⟨view.cfg, view.chan, by
    rw [State.countDraw_draws, State.countDraw_draws, PerChan.get_set_same, PerChan.get_set_same, view.draws],
    view.bytes⟩

theorem SameView.storeByte (view : SameView c s s') (x : Word) (b : Byte) :
    SameView c (s.storeByte x b) (s'.storeByte x b) := by
  refine ⟨view.cfg, view.chan, view.draws, fun a lo hi => ?_⟩
  by_cases there : a = x.toNat
  · rw [there, State.storeByte_memByte_same, State.storeByte_memByte_same]
  · rw [State.storeByte_memByte_ne s' b there, State.storeByte_memByte_ne s b there]
    exact view.bytes a lo hi

theorem SameView.cap (view : SameView c s s') : s'.cap c = s.cap c := State.cap_of_cfg view.cfg c

theorem SameView.buf (view : SameView c s s') : s'.buf c = s.buf c := by rw [State.buf, State.buf, view.cfg]

theorem SameView.tper (view : SameView c s s') : s'.tper c = s.tper c := State.tper_of_cfg view.cfg c

theorem SameView.dmaAddr (view : SameView c s s') : s'.dmaAddr c = s.dmaAddr c := by
  rw [State.dmaAddr, State.dmaAddr, State.bufAddr, State.bufAddr, view.chan, view.cap, view.buf]

theorem SameView.sentinelAddr (view : SameView c s s') : s'.sentinelAddr c = s.sentinelAddr c := by
  rw [State.sentinelAddr, State.sentinelAddr, State.bufAddr, State.bufAddr, view.chan, view.cap, view.buf]

/-! ### The operations of one channel -/

theorem SameView.cmdInit (view : SameView c s s') : SameOutcome c (exec (.cmdInit c) s) (exec (.cmdInit c) s') := by
  cases on : (s.chan c).inited with
  | true =>
    rw [exec_cmdInit_of_inited on, exec_cmdInit_of_inited (view.chan ▸ on)]
    exact view.faults _
  | false =>
    rw [exec_cmdInit_of_not_inited on, exec_cmdInit_of_not_inited (view.chan ▸ on), view.chan, view.cap]
    exact sameOutcome_next (view.setChan _).done rfl

theorem SameView.cmdReset (view : SameView c s s') : SameOutcome c (exec (.cmdReset c) s) (exec (.cmdReset c) s') := by
  cases on : (s.chan c).inited with
  | true =>
    rw [exec_cmdReset_of_inited on, exec_cmdReset_of_inited (view.chan ▸ on), view.chan, view.cap]
    exact sameOutcome_next (view.setChan _).done rfl
  | false =>
    rw [exec_cmdReset_of_not_inited on, exec_cmdReset_of_not_inited (view.chan ▸ on)]
    exact view.faults _

/-- The byte that survives an overrun is drawn by the channel's own count of overruns. -/
theorem SameView.lineByte (view : SameView c s s') (b : Byte) : SameView c (lineByte c b s) (lineByte c b s') := by
  rcases lineByte_cases c b s with ⟨off, e⟩ | ⟨on, empty, e⟩ | ⟨old, on, held, e⟩ <;> rw [e]
  · rw [lineByte_of_not_inited b (view.chan ▸ off)]
    exact view
  · rw [lineByte_of_hold_none b (view.chan ▸ on) (view.chan ▸ empty), view.chan]
    exact view.setChan _
  · rw [lineByte_of_hold_some b (view.chan ▸ on) (view.chan ▸ held), view.chan, view.draws]
    exact (view.setChan _).countDraw

theorem SameView.evIdle (view : SameView c s s') : SameOutcome c (exec (.evIdle c) s) (exec (.evIdle c) s') := by
  rw [exec_evIdle, exec_evIdle, view.chan, view.cfg]
  cases (s.chan c).inited with
  | true => exact sameOutcome_whenEnabled _ (view.setChan _).done rfl
  | false => exact sameOutcome_whenEnabled _ view.done rfl

theorem SameView.evDxfer (view : SameView c s s') : SameOutcome c (exec (.evDxfer c) s) (exec (.evDxfer c) s') := by
  cases held : (s.chan c).hold with
  | none =>
    rw [exec_evDxfer_of_hold_none held]
    exact sameOutcome_fault _ _
  | some b =>
    rw [exec_evDxfer_of_hold_some held, exec_evDxfer_of_hold_some (view.chan ▸ held), view.chan, view.cap, view.dmaAddr]
    exact sameOutcome_whenEnabled _ ((view.storeByte _ _).setChan _).done rfl

theorem SameView.sameOutcome (view : SameView c s s') {i : Instr} (hc : i.chan? = some c) :
    SameOutcome c (exec i s) (exec i s') := by
  cases i with
  | wrChSz0 | wrChSz1 | rdChSz0 | rdChSz1 | cmdBad | wrChStat | wrChLen | wrChCnt | wrChTcnt | wrChCap | wrChBuf
  | wrChTper | wrChReserved9 | wrChReserved10to11 | wrChReserved12to15 | rdChCmd | rdChReserved9 | rdChReserved10to11
  | rdChReserved12to15 => exact view.faults _
  | rdChStat => cases hc; exact view.reads (by rw [view.chan])
  | rdChLen => cases hc; exact view.reads (by rw [view.chan])
  | rdChCnt => cases hc; exact view.reads (by rw [view.chan])
  | rdChBaud => cases hc; exact view.reads (by rw [view.chan])
  | rdChTcnt => cases hc; exact view.reads (by rw [view.chan])
  | rdChCap => cases hc; exact view.reads (by rw [view.cap])
  | rdChBuf => cases hc; exact view.reads view.buf
  | rdChTper => cases hc; exact view.reads (by rw [view.tper])
  | cmdInit => cases hc; exact view.cmdInit
  | cmdReset => cases hc; exact view.cmdReset
  | cmdPrst =>
    cases hc
    rw [exec_cmdPrst, exec_cmdPrst]
    exact sameOutcome_next (view.setChan _).done rfl
  | wrChBaud =>
    cases hc
    rw [exec_wrChBaud, exec_wrChBaud, view.chan]
    exact sameOutcome_next (view.setChan _).done rfl
  | evByte _ b =>
    cases hc
    rw [exec_evByte, exec_evByte]
    exact sameOutcome_next (view.lineByte b).done rfl
  | evIdle => cases hc; exact view.evIdle
  | evDxfer => cases hc; exact view.evDxfer
  | evFtick =>
    cases hc
    rw [exec_evFtick, exec_evFtick, view.chan, view.tper]
    exact sameOutcome_whenEnabled _ (view.setChan _).done rfl
  | evDidle =>
    cases hc
    rw [exec_evDidle, exec_evDidle, view.chan, view.cap]
    exact sameOutcome_whenEnabled _ (view.setChan _).done rfl
  | evDexp =>
    cases hc
    rw [exec_evDexp, exec_evDexp, view.chan, view.cap, view.sentinelAddr]
    exact sameOutcome_whenEnabled _ ((view.storeByte _ _).setChan _).done rfl
  | evDerr =>
    cases hc
    rw [exec_evDerr, exec_evDerr, view.chan, view.cfg]
    exact sameOutcome_whenEnabled _ (view.setChan _).done rfl
  | _ => cases hc

end

/-- Settles O19: operation by operation, the guard, the new channel, the stored byte and its address, and the report are
functions of the view from the channel. -/
theorem channelOperationReadsOnlyItsChannel : Obligations.ChannelOperationReadsOnlyItsChannel := by
  intro i s s' t c hc cfg chan draws bytes h
  obtain ⟨t', run, view, report⟩ := SameView.sameOutcome ⟨cfg, chan, draws, bytes⟩ hc t h
  rw [← exec_cfg h]
  exact ⟨t', run, view.chan, view.draws, report, view.bytes⟩

end Sys2Proof.Machine
end
